-- ==== Sys2Proof/Word.lean ====
section
/-! DEFINITION. Sys2Proof/Word.lean: the words the part puts on its line and keeps in its counts. -/

namespace Sys2Proof

/-- One byte on the station line (10 R162: eight data bits). -/
abbrev Byte := BitVec 8

/-- A value of the timestamp count (00_scope "Time": wraps from 2³²−1 to 0). -/
abbrev Stamp := BitVec 32

/-- A run number of a timer, 0 to 255, wrapping (01 R15, 02 R37). -/
abbrev RunNumber := BitVec 8

end Sys2Proof
end

