-- ==== Sys2Proof/Syntax.lean ====
section
/-! DEFINITION. Sys2Proof/Syntax.lean: the commands, one constructor for each row of spec/opcode_table.json. A
command carries an operand only where something outside the part supplies a value; what one block of the part hands
to another stands in the machine's state until its receiver takes it (log 1). -/

namespace Sys2Proof

/-- The two drive channels (07 R119). -/
inductive Channel where
  | tilt | steer
  deriving DecidableEq, Repr

/-- The raw level of the STAND input (03 R47): DOWN when the side stand is lowered. -/
inductive StandLevel where
  | down | up
  deriving DecidableEq, Repr

/-- A character as it stands on the line: data bits, mark bit, stop bit (10 R162). -/
structure LineChar where
  data : Byte
  mark : Bool
  stop : Bool
  deriving DecidableEq, Repr

/-- Where the start bit of a character fell: since the last reset ended, or before it did (10 R168). -/
inductive StartBit where
  | sinceReset | beforeReset
  deriving DecidableEq, Repr

/-- An address character as it comes in: its eight data bits (10 R162), and where its start bit fell (R168). -/
structure AddressChar where
  data : Byte
  start : StartBit
  deriving DecidableEq, Repr

/-- The commands of the part. -/
inductive Instr where
  /-- COLD_RESET (01 R30): the values the station and rate straps are sampled at (10 R162). -/
  | coldReset (stationStraps rateStraps : Nat)
  /-- WARM_RESET (01 R29). -/
  | warmReset
  /-- TIMESTAMP_TICK (09 R157): a millisecond has passed. -/
  | timestampTick
  /-- ACQUISITION_PERIOD_START (03 R45). -/
  | acquisitionPeriodStart
  /-- CONVERSION_COMPLETE (03 R46): the converter's result, and the level at the STAND input. -/
  | conversionComplete (result : Nat) (stand : StandLevel)
  /-- SNAPSHOT_AT_ESTIMATOR (03 R63). -/
  | snapshotAtEstimator
  /-- SNAPSHOT_AT_CLAMP (02 R35). -/
  | snapshotAtClamp
  /-- SNAPSHOT_AT_CHANNEL (07 R122). -/
  | snapshotAtChannel (ch : Channel)
  /-- SNAPSHOT_AT_ARBITER (07 R131). -/
  | snapshotAtArbiter
  /-- ESTIMATE (01 R2). -/
  | estimate
  /-- CLASS_CHANGE (02 R36). -/
  | classChange
  /-- PULL_IN_END (02 R33). -/
  | pullInEnd
  /-- LOCK_TIMER_EXPIRY (02 R38). -/
  | lockTimerExpiry
  /-- LOCK_TIMER_EXPIRY_TAKEN (02 R39). -/
  | lockTimerExpiryTaken
  /-- CAPTURE_TIMER_EXPIRY (01 R19). -/
  | captureTimerExpiry
  /-- MAJOR_FAULT_NOTIFICATION (01 R21). -/
  | majorFaultNotification
  /-- SET_COMMAND (05 R98). -/
  | setCommand
  /-- APPLY_COMMAND (06 R115). -/
  | applyCommand
  /-- REGIME_DECISION (05 R95). -/
  | regimeDecision
  /-- DEMAND_COMPUTATION (06 R103). -/
  | demandComputation
  /-- ARBITRATION (07 R133). -/
  | arbitration
  /-- GRANT (07 R121). -/
  | grant
  /-- WHEEL_PULSE (04 R71): µs since the unit's previous event. -/
  | wheelPulse (elapsed : Nat)
  /-- EVALUATION_TIMER_EXPIRY (04 R73): µs since the unit's previous event. -/
  | evaluationTimerExpiry (elapsed : Nat)
  /-- ADDRESS_CHARACTER (10 R163). -/
  | addressCharacter (value : AddressChar)
  /-- DATA_CHARACTER (10 R164): the eight data bits. -/
  | dataCharacter (value : Byte)
  /-- FRAMING_ERROR_CHARACTER (10 R163). -/
  | framingErrorCharacter
  /-- GAP_TIMER_EXPIRY (10 R163): µs since the end of the frame's last character. -/
  | gapTimerExpiry (elapsed : Nat)
  /-- TURNAROUND_EXPIRY (10 R165): µs since the end of the request's last character. -/
  | turnaroundExpiry (elapsed : Nat)
  /-- READBACK_CHARACTER (10 R167): the character read back. -/
  | readbackCharacter (c : LineChar)
  /-- IDENT (11 R169). -/
  | ident
  /-- STATUS (11 R177). -/
  | status
  /-- SET_PARAM (11 R174). -/
  | setParam
  /-- GET_PARAM (11 R175). -/
  | getParam
  /-- MAP_WRITE (05 R86). -/
  | mapWrite
  /-- MAP_READ (05 R88). -/
  | mapRead
  /-- ARM (01 R5). -/
  | arm
  /-- DISARM (01 R6). -/
  | disarm
  /-- RELEASE (01 R9). -/
  | release
  /-- LOCK (01 R13). -/
  | lock
  /-- RESTART (01 R29). -/
  | restart
  /-- FAULT_READ (08 R149). -/
  | faultRead
  /-- FAULT_CLEAR (08 R146). -/
  | faultClear
  /-- FAULT_CONFIG (08 R143). -/
  | faultConfig
  /-- COUNTER_READ (09 R155). -/
  | counterRead
  /-- EVENT_READ (09 R159). -/
  | eventRead
  /-- SAMPLE_READ (03 R53). -/
  | sampleRead
  /-- ACQ_CONFIG (03 R49). -/
  | acqConfig
  /-- ACQ_SINGLE (03 R51). -/
  | acqSingle
  /-- UNKNOWN_KIND (11 R169). -/
  | unknownKind
  /-- COMMAND_CODE_OUT_OF_RANGE (11 R172). -/
  | commandCodeOutOfRange
  deriving DecidableEq, Repr

end Sys2Proof
end

