-- ==== Sys2Proof/Config.lean ====
section
/-! DEFINITION. Sys2Proof/Config.lean: what the part fixes once for all of its life. The spec leaves no value of
an event open, so there is no free value here. -/

namespace Sys2Proof.Config

/-- The part number that IDENT reports (11 R176, request kinds). -/
def partNumber : Int := 7220

/-- The host's address on the line (10 R162). -/
def hostAddress : Byte := 0

/-- The broadcast address (10 R162). -/
def broadcastAddress : Byte := 31

/-- Pull-in time of the solenoid in ms (02 R32). -/
def pullInMs : Nat := 100

/-- Records of a full history ring (05 R79). -/
def ringSize : Nat := 9

/-- Records of a full notice queue (09 R157). -/
def noticeSize : Nat := 16

/-- A dropped count stops here (09 R158). -/
def droppedMax : Nat := 255

/-- A pulse sooner than this after the last accepted one is a glitch, µs (04 R70). -/
def glitchWindow : Nat := 200

/-- From this time without an accepted pulse on, µs, the wheel stands (04 R69, R71, R73). -/
def stopTime : Nat := 500000

/-- Step of the evaluation timer, µs (04 R69). -/
def evaluationStep : Nat := 1000

/-- A gap longer than this, µs, ends a frame (10 R163). -/
def gapLimit : Nat := 1000

/-- Turnaround between a request and its reply, µs (10 R165). -/
def turnaroundTime : Nat := 100

end Sys2Proof.Config
end

