-- ==== Sys2Proof/Machine/State.lean ====
section
/-! DEFINITION. Sys2Proof/Machine/State.lean: everything the spec has the part hold, block by block, with the value
of each piece after a cold reset. Quantities with arithmetic are exact integers; their ranges are the rules'. -/

namespace Sys2Proof.Machine

/-! ## Names -/

/-- The seven regimes (01 R1). -/
inductive Regime where
  | off | locked | releasing | active | capturing | engaging | failed
  deriving DecidableEq, Repr

/-- Why the present capture began, or what it has since become (01 R1). -/
inductive CaptureCause where
  | speed | request | stand | fault
  deriving DecidableEq, Repr

/-- The cause a REGIME notice carries (01 R4). -/
inductive NoticeCause where
  | request | speed | stand | fault | timeout | clamp | reset
  deriving DecidableEq, Repr

/-- What a run of the lock timer times (02 R37); the purpose NONE of 01 R1 is the absence of one. -/
inductive RunPurpose where
  | release | engage
  deriving DecidableEq, Repr

/-- The MODE parameter and the mode in force (01 R1, R28). -/
inductive Mode where
  | auto | manual
  deriving DecidableEq, Repr

/-- The measurement state (03 R63). -/
inductive MeasState where
  | valid | single | held | lost
  deriving DecidableEq, Repr

/-- The stroke class (02 R31). UNKNOWN is never a raw class. -/
inductive StrokeClass where
  | unknown | closed | moving | opened
  deriving DecidableEq, Repr

/-- The state of a drive channel (07 R119). -/
inductive ChannelState where
  | off | on | tripped
  deriving DecidableEq, Repr

/-- Fault severity (08 R137). -/
inductive Severity where
  | minor | major
  deriving DecidableEq, Repr

/-- The fourteen fault kinds, in the order of their ids (08 R137). -/
inductive FaultKind where
  | leanDisagree | leanRange | barRange | clampPosition | releaseTimeout | engageTimeout | tiltDriveTrip
  | steerDriveTrip | leanExcess | speedNoise | supplyLow | overtemp | staleInput | captureSlow
  deriving DecidableEq, Repr

/-- The sixteen counters, in the order of their ids (09 R152). -/
inductive CounterId where
  | releases | engagements | captureAborts | releaseTimeouts | targetClamps | rateLimited | disagreeSamples
  | missedPeriods | budgetCutPeriods | speedGlitches | framesGood | framesBad | framesOther | replyCollisions
  | repliesDropped | faultsSet
  deriving DecidableEq, Repr

/-- The scan mode and the period kind (03 R44). -/
inductive ScanMode where
  | continuous | single
  deriving DecidableEq, Repr

/-- The permitted averaging counts (03 R44). -/
inductive AvgCount where
  | one | two | four
  deriving DecidableEq, Repr

/-- The six timeout codes (02 R37). -/
inductive TimeoutCode where
  | code0 | code1 | code2 | code3 | code4 | code5
  deriving DecidableEq, Repr

/-- STEER_TRIP_ACT (07 R127). -/
inductive TripAct where
  | disable | report
  deriving DecidableEq, Repr

/-- COUNTER_MODE (09 R154). -/
inductive CounterMode where
  | wrap | saturate
  deriving DecidableEq, Repr

/-- The eight analog inputs, 0 to 7 (03 "The inputs"). -/
inductive Input where
  | leanA | leanB | bar | stroke | iTilt | iSteer | vsup | temp
  deriving DecidableEq, Repr

/-- The seven gains (06 R102). -/
inductive Gain where
  | kp | kd | gs | cd | vbLo | vbHi | wMax
  deriving DecidableEq, Repr

/-- The receive states of the line (10 R163). -/
inductive RxState where
  | idle | addressed | skipping
  deriving DecidableEq, Repr

/-- The transmit states of the line; SENDING has the position of the character being sent (10 R165). -/
inductive TxState where
  | idle | turnaround | sending (position : Nat)
  deriving DecidableEq, Repr

/-- The status codes of replies (11 R169). -/
inductive Status where
  | ok | clamped | pending | refusedState | refusedRange | refusedFault | unknownKind | malformed
  deriving DecidableEq, Repr

/-! ## Tables of like things -/

/-- One value for each analog input. -/
structure PerInput (α : Type) where
  leanA : α
  leanB : α
  bar : α
  stroke : α
  iTilt : α
  iSteer : α
  vsup : α
  temp : α
  deriving DecidableEq, Repr

/-- One value for each gain. -/
structure PerGain (α : Type) where
  kp : α
  kd : α
  gs : α
  cd : α
  vbLo : α
  vbHi : α
  wMax : α
  deriving DecidableEq, Repr

/-- The same value for each input. -/
def PerInput.all {α : Type} (x : α) : PerInput α := ⟨x, x, x, x, x, x, x, x⟩

/-- The same value for each gain. -/
def PerGain.all {α : Type} (x : α) : PerGain α := ⟨x, x, x, x, x, x, x⟩

/-! ## The qualifier -/

/-- A two-valued qualifier: the qualified value and the run count, 0 to 2 (03 R54). -/
structure Qual where
  value : Bool
  run : Nat
  deriving DecidableEq, Repr

/-- Every two-valued qualifier after a reset (03 R56). -/
def Qual.start : Qual := ⟨false, 0⟩

/-! ## Regime Controller -/

/-- The capture timer (01 R1), with the milliseconds that remain. -/
inductive CaptureTimer where
  | stopped
  | running (left : Nat)
  | expired
  deriving DecidableEq, Repr

/-- The latest estimate as the regime controller keeps it (01 R1). -/
structure LatestEstimate where
  meas : MeasState
  phi : Int
  ringFull : Bool
  stand : Bool
  deriving DecidableEq, Repr

/-- What the regime controller holds (01 R1). The mode in force stands in the parameter store (log 17). -/
structure RegimeCtl where
  regime : Regime
  cause : Option CaptureCause
  forced : Bool
  hold : Option Bool
  purpose : Option RunPurpose
  capTimer : CaptureTimer
  capRun : RunNumber
  latest : LatestEstimate
  deriving DecidableEq, Repr

/-- The latest estimate after either reset (01 R29, R30). -/
def LatestEstimate.start : LatestEstimate := { meas := .lost, phi := 0, ringFull := false, stand := false }

/-- After a cold reset (01 R30). -/
def RegimeCtl.start : RegimeCtl :=
  { regime := .off, cause := none, forced := false, hold := none, purpose := none, capTimer := .stopped,
    capRun := 0, latest := .start }

/-! ## Clamp Controller -/

/-- The solenoid with its phase (02 R31). -/
inductive Solenoid where
  | deEnergized
  | pullIn (left : Nat)
  | holding
  deriving DecidableEq, Repr

/-- The lock timer (02 R31). -/
inductive LockTimer where
  | stopped
  | running (purpose : RunPurpose) (duration left : Nat)
  deriving DecidableEq, Repr

/-- A multi-valued qualifier over stroke classes (03 R55). -/
structure ClassQual where
  cls : StrokeClass
  candidate : Option StrokeClass
  run : Nat
  deriving DecidableEq, Repr

/-- What the clamp controller holds (02 R31). -/
structure ClampCtl where
  solenoid : Solenoid
  stroke : ClassQual
  timer : LockTimer
  run : RunNumber
  form1 : Bool
  form2 : Bool
  form3 : Bool
  deriving DecidableEq, Repr

/-- After either reset (02 R42, R43). -/
def ClampCtl.start : ClampCtl :=
  { solenoid := .deEnergized, stroke := { cls := .unknown, candidate := none, run := 0 }, timer := .stopped,
    run := 0, form1 := false, form2 := false, form3 := false }

/-! ## Acquisition Sequencer -/

/-- A sequence in flight (03 R44). The input being converted is the number of finished results (log 17). -/
structure Sequence where
  k : AvgCount
  done : Nat
  sum : Nat
  finished : List Nat
  deriving DecidableEq, Repr

/-- A snapshot (03 R47): averaged results, qualified at-rail values, STAND level. -/
structure Snapshot where
  results : PerInput Nat
  rail : PerInput Bool
  stand : StandLevel
  deriving DecidableEq, Repr

/-- What the acquisition sequencer holds (03 R44), and the mark that no period has started since the reset (R66,
log 11). -/
structure Sequencer where
  k : AvgCount
  scanMode : ScanMode
  periodKind : ScanMode
  inFlight : Option Sequence
  singleWaiting : Bool
  published : Bool
  last : Snapshot
  fresh : PerInput Bool
  railQual : PerInput Qual
  missed : Nat
  awaitingFirst : Bool
  deriving DecidableEq, Repr

/-- After a reset, with the averaging count given: 2 after a cold reset, kept by a warm one (03 R66). -/
def Sequencer.start (k : AvgCount) : Sequencer :=
  { k := k, scanMode := .continuous, periodKind := .continuous, inFlight := none, singleWaiting := false,
    published := false, last := { results := .all 0, rail := .all false, stand := .up }, fresh := .all false,
    railQual := .all .start, missed := 0, awaitingFirst := true }

/-! ## Wheel Speed Unit -/

/-- What the wheel speed unit holds (04 R68). The last accepted pulse is held as the µs since it at the unit's
latest event, 500 000 standing for that or more (R69, log 4). -/
structure WheelUnit where
  sincePulse : Option Nat
  period : Option Nat
  glitches : Nat
  v : Int
  evalLeft : Nat
  deriving DecidableEq, Repr

/-- After either reset (04 R77, R78). -/
def WheelUnit.start : WheelUnit :=
  { sincePulse := none, period := none, glitches := 0, v := 0, evalLeft := Config.evaluationStep }

/-! ## Lean Estimator -/

/-- A record of the history ring (05 R79). -/
structure RingRecord where
  phi : Int
  bar : Int
  deriving DecidableEq, Repr

/-- What the lean estimator holds (03 R61 to R67, 05 R79, R84): also the rates of its latest estimate (log 15) and
the at-rail values of the snapshot before, by which it knows a rising edge (log 14). -/
structure Estimator where
  meas : MeasState
  phi : Int
  ring : List RingRecord
  phiRate : Int
  barRate : Int
  disagree : Qual
  stand : Qual
  excess : Qual
  railA : Bool
  railB : Bool
  railBar : Bool
  deriving DecidableEq, Repr

/-- After either reset (03 R67, 05 R81, R84). -/
def Estimator.start : Estimator :=
  { meas := .lost, phi := 0, ring := [], phiRate := 0, barRate := 0, disagree := .start, stand := .start,
    excess := .start, railA := false, railB := false, railBar := false }

/-! ## Target Generator -/

/-- The lean map: 8 rows of 9 entries (05 R85). -/
abbrev LeanMap := Vector (Vector Int 9) 8

/-- What the target generator holds (05 R94). -/
structure TargetGen where
  map : LeanMap
  target : Option Int
  phiCmd : Int
  limited : Bool
  deriving DecidableEq, Repr

/-- After a reset, with the map given: all zero after a cold reset, kept by a warm one (05 R101). -/
def TargetGen.start (map : LeanMap) : TargetGen := { map := map, target := none, phiCmd := 0, limited := false }

/-- The map after a cold reset (05 R89). -/
def LeanMap.zero : LeanMap := Vector.replicate 8 (Vector.replicate 9 0)

/-! ## Control Law Unit -/

/-- What the control law unit holds (06 R102). -/
structure ControlLaw where
  applied : PerGain Int
  held : PerGain (Option Int)
  w : Int
  dT : Int
  dS : Int
  foldback : Bool
  deriving DecidableEq, Repr

/-- The gains after a cold reset (06 R117). -/
def gainDefaults : PerGain Int := { kp := 40, kd := 12, gs := 48, cd := 8, vbLo := 300, vbHi := 900, wMax := 192 }

/-- After a reset, with the gains given (06 R117, R118). -/
def ControlLaw.start (applied : PerGain Int) (held : PerGain (Option Int)) : ControlLaw :=
  { applied := applied, held := held, w := 0, dT := 0, dS := 0, foldback := false }

/-! ## Drive Channels -/

/-- What a drive channel holds (07 R119). -/
structure DriveChannel where
  state : ChannelState
  applied : Int
  echoRef : Int
  heldLimit : Int
  current : Int
  echo : Qual
  overcurrent : Qual
  deriving DecidableEq, Repr

/-- After a reset, in the state given and with the channel's limit parameter (07 R129). -/
def DriveChannel.start (state : ChannelState) (limit : Int) : DriveChannel :=
  { state := state, applied := 0, echoRef := 0, heldLimit := limit, current := 0, echo := .start, overcurrent := .start }

/-! ## Supply Budget Arbiter -/

/-- What the arbiter holds (07 R130). -/
structure Arbiter where
  supplyLow : Qual
  overTemp : Qual
  budget : Int
  cutRun : Bool
  deriving DecidableEq, Repr

/-- After either reset, with SUPPLY_BUDGET as the store holds it (07 R136). -/
def Arbiter.start (supplyBudget : Int) : Arbiter :=
  { supplyLow := .start, overTemp := .start, budget := supplyBudget, cutRun := false }

/-! ## Fault Unit -/

/-- What a record holds while its status is SET (08 R137). -/
structure FaultSet where
  severity : Severity
  time : Stamp
  deriving DecidableEq, Repr

/-- The record of one kind (08 R137); the status is SET when `status` is present. -/
structure FaultRecord where
  status : Option FaultSet
  severity : Severity
  detectMask : Bool
  reportMask : Bool
  deriving DecidableEq, Repr

/-- The fourteen records (08 R137). -/
structure FaultTable where
  leanDisagree : FaultRecord
  leanRange : FaultRecord
  barRange : FaultRecord
  clampPosition : FaultRecord
  releaseTimeout : FaultRecord
  engageTimeout : FaultRecord
  tiltDriveTrip : FaultRecord
  steerDriveTrip : FaultRecord
  leanExcess : FaultRecord
  speedNoise : FaultRecord
  supplyLow : FaultRecord
  overtemp : FaultRecord
  staleInput : FaultRecord
  captureSlow : FaultRecord
  deriving DecidableEq, Repr

/-- The first-fault pointer while valid (08 R142). -/
structure FaultPointer where
  kind : FaultKind
  time : Stamp
  deriving DecidableEq, Repr

/-- What the fault unit holds (08 R137, R141, R142). -/
structure FaultUnit where
  table : FaultTable
  pointer : Option FaultPointer
  majorPresent : Bool
  minorPresent : Bool
  deriving DecidableEq, Repr

/-- A record after a cold reset (08 R150). -/
def FaultRecord.start (severity : Severity) : FaultRecord :=
  { status := none, severity := severity, detectMask := false, reportMask := false }

/-- The table after a cold reset, with the default severities of 08 R137. -/
def FaultTable.start : FaultTable :=
  { leanDisagree := .start .major, leanRange := .start .major, barRange := .start .minor,
    clampPosition := .start .major, releaseTimeout := .start .minor, engageTimeout := .start .major,
    tiltDriveTrip := .start .major, steerDriveTrip := .start .minor, leanExcess := .start .major,
    speedNoise := .start .minor, supplyLow := .start .minor, overtemp := .start .minor,
    staleInput := .start .major, captureSlow := .start .minor }

/-- After a cold reset (08 R150). -/
def FaultUnit.start : FaultUnit :=
  { table := .start, pointer := none, majorPresent := false, minorPresent := false }

/-! ## Statistics Unit -/

/-- One counter (09 R152). -/
structure Counter where
  value : Nat
  half : Bool
  full : Bool
  mask : Bool
  deriving DecidableEq, Repr

/-- The sixteen counters (09 R152). -/
structure CounterTable where
  releases : Counter
  engagements : Counter
  captureAborts : Counter
  releaseTimeouts : Counter
  targetClamps : Counter
  rateLimited : Counter
  disagreeSamples : Counter
  missedPeriods : Counter
  budgetCutPeriods : Counter
  speedGlitches : Counter
  framesGood : Counter
  framesBad : Counter
  framesOther : Counter
  replyCollisions : Counter
  repliesDropped : Counter
  faultsSet : Counter
  deriving DecidableEq, Repr

/-- A counter after a cold reset (09 R156). -/
def Counter.start : Counter := { value := 0, half := false, full := false, mask := false }

/-- The counters after a cold reset (09 R156). -/
def CounterTable.start : CounterTable :=
  ⟨.start, .start, .start, .start, .start, .start, .start, .start, .start, .start, .start, .start, .start, .start,
    .start, .start⟩

/-! ## Notice Queue -/

/-- The kind and detail of a notice (09 R157). -/
inductive NoticeContent where
  | regime (left entered : Regime) (cause : NoticeCause)
  | faultSet (kind : FaultKind) (severity : Severity)
  | counterHalf (id : CounterId)
  | counterFull (id : CounterId)
  | budgetCut (tilt steer : Int)
  | captureAbort (v : Int)
  | standChange (value : Bool)
  deriving DecidableEq, Repr

/-- A notice record; a dropped count of 0 is an absent one (09 R157). -/
structure Notice where
  content : NoticeContent
  time : Stamp
  dropped : Nat
  deriving DecidableEq, Repr

/-- What the notice queue holds: the records oldest first, the timestamp count, the attention value the fault unit
gave it last, and the ALERT output (09 R157, R160). -/
structure NoticeQueue where
  records : List Notice
  now : Stamp
  attention : Bool
  alert : Bool
  deriving DecidableEq, Repr

/-- After a cold reset (09 R161). -/
def NoticeQueue.start : NoticeQueue := { records := [], now := 0, attention := false, alert := false }

/-! ## Parameter store -/

/-- The parameters of 11 R173 but for the gains, which the control law unit holds (log 17). -/
structure Params where
  mode : Mode
  vRelease : Int
  vCapture : Int
  leanLimit : Int
  rLean : Int
  rCapture : Int
  capWindow : Int
  capRate : Int
  capTime : Int
  tol : Int
  releaseTmo : TimeoutCode
  engageTmo : TimeoutCode
  strokeClosedMax : Int
  strokeOpenMin : Int
  ilimT : Int
  ilimS : Int
  supplyBudget : Int
  prioT : Int
  prioS : Int
  steerTripAct : TripAct
  vsupMin : Int
  tempMax : Int
  wheelCirc : Int
  wheelTeeth : Int
  counterMode : CounterMode
  zA : Int
  zB : Int
  zS : Int
  sA : Int
  sB : Int
  sS : Int
  deriving DecidableEq, Repr

/-- The defaults (11 R173). -/
def Params.start : Params :=
  { mode := .auto, vRelease := 250, vCapture := 150, leanLimit := 3000, rLean := 20, rCapture := 10,
    capWindow := 100, capRate := 400, capTime := 3000, tol := 150, releaseTmo := .code2, engageTmo := .code3,
    strokeClosedMax := 800, strokeOpenMin := 3200, ilimT := 1500, ilimS := 500, supplyBudget := 2500, prioT := 6,
    prioS := 4, steerTripAct := .disable, vsupMin := 38000, tempMax := 1100, wheelCirc := 1400, wheelTeeth := 20,
    counterMode := .saturate, zA := 2048, zB := 2048, zS := 2048, sA := 400, sB := -400, sS := 400 }

/-! ## Station Line and Request Handler -/

/-- A good frame as it is handed on (10 R164). -/
structure Frame where
  kind : Byte
  tag : Byte
  payload : List Byte
  broadcast : Bool
  deriving DecidableEq, Repr

/-- A reply in the reply buffer (10 R165); `kind` is the byte that travels. -/
structure Reply where
  kind : Byte
  tag : Byte
  status : Status
  payload : List Byte
  deriving DecidableEq, Repr

/-- What the line interface and the request handler hold (10 R162, R163, R165; 11 R172). -/
structure StationLine where
  stationStraps : BitVec 3
  rateStraps : BitVec 2
  rx : RxState
  buffer : List Byte
  toBroadcast : Bool
  tx : TxState
  reply : Option Reply
  restartWaiting : Bool
  deriving DecidableEq, Repr

/-- After a reset, with the straps given: sampled by a cold reset, kept by a warm one (10 R168). -/
def StationLine.start (stationStraps : BitVec 3) (rateStraps : BitVec 2) : StationLine :=
  { stationStraps := stationStraps, rateStraps := rateStraps, rx := .idle, buffer := [], toBroadcast := false,
    tx := .idle, reply := none, restartWaiting := false }

/-! ## What is under way between blocks -/

/-- The estimate (03 R65). -/
structure Estimate where
  meas : MeasState
  phi : Int
  bar : Int
  phiRate : Int
  barRate : Int
  ringFull : Bool
  stand : Bool
  deriving DecidableEq, Repr

/-- What the clamp controller sends the regime controller, in one order (02 R36). -/
inductive ClampEvent where
  | classChange (cls : StrokeClass)
  | lockExpiry (run : RunNumber) (purpose : RunPurpose)
  deriving DecidableEq, Repr

/-- A regime decision (01 R2) with the estimate of its snapshot, and the number of apply commands the regime
controller had given when it published it (06 R115, log 16). -/
structure Decision where
  regime : Regime
  hold : Option Bool
  est : Estimate
  applies : Nat
  deriving DecidableEq, Repr

/-- What the regime controller sends the target generator, in one order (05 R94). -/
inductive TargetMsg where
  | set (phi : Int)
  | decision (d : Decision)
  deriving DecidableEq, Repr

/-- The commanded lean as it is published, with its decision (05 R94). -/
structure LeanCommand where
  phiCmd : Int
  decision : Decision
  deriving DecidableEq, Repr

/-- Raw demands with the effective limits used (06 R103). -/
structure Demands where
  dT : Int
  dS : Int
  limT : Int
  limS : Int
  deriving DecidableEq, Repr

/-- The two grants of one arbitration with the effective limits (07 R133). -/
structure Grants where
  gT : Int
  gS : Int
  limT : Int
  limS : Int
  deriving DecidableEq, Repr

/-- What has been sent and not yet taken, oldest first (log 1). -/
structure Flight where
  snapEst : List Snapshot
  snapClamp : List Snapshot
  snapTilt : List Snapshot
  snapSteer : List Snapshot
  snapArb : List Snapshot
  estimates : List Estimate
  clampEvents : List ClampEvent
  captureExpiries : List RunNumber
  notifications : List FaultKind
  targetMsgs : List TargetMsg
  leanCommands : List LeanCommand
  appliesSent : Nat
  appliesTaken : Nat
  demands : List Demands
  grants : List Grants
  frames : List Frame
  deriving DecidableEq, Repr

/-- Nothing under way. -/
def Flight.start : Flight :=
  { snapEst := [], snapClamp := [], snapTilt := [], snapSteer := [], snapArb := [], estimates := [],
    clampEvents := [], captureExpiries := [], notifications := [], targetMsgs := [], leanCommands := [],
    appliesSent := 0, appliesTaken := 0, demands := [], grants := [], frames := [] }

/-! ## The whole -/

/-- The part, and the commands that wait for it. -/
structure State where
  ctl : RegimeCtl
  clamp : ClampCtl
  acq : Sequencer
  wheel : WheelUnit
  est : Estimator
  target : TargetGen
  law : ControlLaw
  tilt : DriveChannel
  steer : DriveChannel
  arbiter : Arbiter
  faults : FaultUnit
  stats : CounterTable
  notices : NoticeQueue
  params : Params
  line : StationLine
  flight : Flight
  pending : List Instr
  deriving DecidableEq, Repr

/-- The part after a cold reset that sampled the straps at these values, with nothing waiting (01 R30 and the reset
rules of every chapter). -/
def State.coldStart (stationStraps : BitVec 3) (rateStraps : BitVec 2) : State :=
  { ctl := .start, clamp := .start, acq := .start .two, wheel := .start, est := .start, target := .start .zero,
    law := .start gainDefaults (.all none), tilt := .start .off Params.start.ilimT,
    steer := .start .off Params.start.ilimS, arbiter := .start Params.start.supplyBudget, faults := .start,
    stats := .start, notices := .start, params := .start, line := .start stationStraps rateStraps,
    flight := .start, pending := [] }

/-- The machine right after reset. DESIGN CHOICE (log 10): all straps read 0, so the part is station 1 at
125 000 bit/s. -/
def State.reset : State := State.coldStart 0 0

/-! ## How a step can stop -/

/-- Why the machine stops with a fault: never. The spec describes no event that stops the part; its fault kinds are
records in the state (log 25). -/
inductive Fault where
  deriving DecidableEq, Repr

/-- Why a command has no meaning. -/
inductive Refusal where
  /-- Raised by exec for a row that has no meaning yet, naming it; safe, since nothing is claimed of the command. -/
  | notModelled (mnemonic : String)
  deriving DecidableEq, Repr

end Sys2Proof.Machine
end

