-- ==== Sys2Proof/Machine/Operands.lean ====
section
/-! DEFINITION. Sys2Proof/Machine/Operands.lean: the forms in which values come in and go out: conversions of the
samples, clamps, the parameters by identifier, the layouts and codes on the line, and the check sequence. -/

namespace Sys2Proof.Machine

/-! ## Arithmetic of the conventions (00_scope "Arithmetic"): division truncates toward zero, Int.tdiv -/

/-- |x|. -/
def mag (x : Int) : Int := if x < 0 then -x else x

/-- The sign of x; that of 0 is 0 (07 R133). -/
def sgn (x : Int) : Int := if x < 0 then -1 else if x = 0 then 0 else 1

/-- Clamp to ±l. -/
def clampMag (l x : Int) : Int := if l < x then l else if x < -l then -l else x

/-- Clamp to the range lo..hi. -/
def clampTo (lo hi x : Int) : Int := if x < lo then lo else if hi < x then hi else x

/-! ## Samples -/

/-- A lean angle from its averaged result (03 R58). -/
def leanAngle (r : Nat) (zero scale : Int) : Int := clampMag 9000 ((((r : Int) - zero) * scale).tdiv 256)

/-- The bar angle from its averaged result (03 R59). -/
def barAngle (r : Nat) (zero scale : Int) : Int := clampMag 4500 ((((r : Int) - zero) * scale).tdiv 256)

/-- A bridge current (03 R60, 07 R122). -/
def bridgeCurrent (r : Nat) : Int := (((r : Int) - 2048) * 320).tdiv 256

/-- The supply in mV (03 R60). -/
def supplyMillivolts (r : Nat) : Int := (r : Int) * 16

/-- The temperature in 0.1 °C (03 R60). -/
def temperature (r : Nat) : Int := (r : Int).tdiv 2 - 500

/-- The conversions of one input, by the averaging count (03 R44). -/
def AvgCount.toNat : AvgCount → Nat
  | .one => 1
  | .two => 2
  | .four => 4

/-- The permitted averaging count for the byte of an ACQ_CONFIG (03 R49). -/
def averagingCount (n : Nat) : AvgCount := if n ≤ 1 then .one else if n ≤ 3 then .two else .four

/-- The inputs by number (03 R46). -/
def Input.byNumber : Nat → Option Input
  | 0 => some .leanA
  | 1 => some .leanB
  | 2 => some .bar
  | 3 => some .stroke
  | 4 => some .iTilt
  | 5 => some .iSteer
  | 6 => some .vsup
  | 7 => some .temp
  | _ => none

/-- A sample in the format named, RIGHT 0, SIGNED_LEFT 1 or LEFT 2 (03 R53). -/
def sampleFormat (r : Nat) : Nat → Option Int
  | 0 => some r
  | 1 => some (((r : Int) - 2048) * 16)
  | 2 => some ((r : Int) * 16)
  | _ => none

/-! ## Speed (04 R72) -/

/-- The speed of a period or a decay time in µs. -/
def speedFrom (circ teeth : Int) (micros : Nat) : Int :=
  let q := (circ * 100000).tdiv (teeth * micros)
  if 2500 < q then 2500 else q

/-! ## Timeouts -/

/-- The timeout of a code, ms (02 R37). -/
def TimeoutCode.ms : TimeoutCode → Nat
  | .code0 => 40
  | .code1 => 60
  | .code2 => 80
  | .code3 => 120
  | .code4 => 160
  | .code5 => 240

/-! ## The parameters (11 R173) -/

/-- The numeric parameters. -/
inductive NumParam where
  | vRelease | vCapture | leanLimit | rLean | rCapture | capWindow | capRate | capTime | tol | strokeClosedMax
  | strokeOpenMin | ilimT | ilimS | supplyBudget | prioT | prioS | vsupMin | tempMax | wheelCirc | wheelTeeth
  deriving DecidableEq, Repr

/-- The calibration parameters. -/
inductive CalParam where
  | zA | zB | zS | sA | sB | sS
  deriving DecidableEq, Repr

/-- The parameters by class. -/
inductive ParamId where
  | mode | releaseTmo | engageTmo | steerTripAct | counterMode
  | num (n : NumParam)
  | cal (c : CalParam)
  | gain (g : Gain)
  deriving DecidableEq, Repr

/-- The parameter of an identifier byte. -/
def ParamId.ofByte (b : Byte) : Option ParamId :=
  match b.toNat with
  | 0x01 => some .mode
  | 0x02 => some (.num .vRelease)
  | 0x03 => some (.num .vCapture)
  | 0x04 => some (.num .leanLimit)
  | 0x05 => some (.num .rLean)
  | 0x06 => some (.num .rCapture)
  | 0x07 => some (.num .capWindow)
  | 0x08 => some (.num .capRate)
  | 0x09 => some (.num .capTime)
  | 0x0A => some (.num .tol)
  | 0x0B => some .releaseTmo
  | 0x0C => some .engageTmo
  | 0x0D => some (.num .strokeClosedMax)
  | 0x0E => some (.num .strokeOpenMin)
  | 0x10 => some (.gain .kp)
  | 0x11 => some (.gain .kd)
  | 0x12 => some (.gain .gs)
  | 0x13 => some (.gain .cd)
  | 0x14 => some (.gain .vbLo)
  | 0x15 => some (.gain .vbHi)
  | 0x16 => some (.gain .wMax)
  | 0x20 => some (.num .ilimT)
  | 0x21 => some (.num .ilimS)
  | 0x22 => some (.num .supplyBudget)
  | 0x23 => some (.num .prioT)
  | 0x24 => some (.num .prioS)
  | 0x25 => some .steerTripAct
  | 0x26 => some (.num .vsupMin)
  | 0x27 => some (.num .tempMax)
  | 0x30 => some (.num .wheelCirc)
  | 0x31 => some (.num .wheelTeeth)
  | 0x32 => some .counterMode
  | 0x40 => some (.cal .zA)
  | 0x41 => some (.cal .sA)
  | 0x42 => some (.cal .zB)
  | 0x43 => some (.cal .sB)
  | 0x44 => some (.cal .zS)
  | 0x45 => some (.cal .sS)
  | _ => none

/-- The range of a numeric parameter: low end, high end. -/
def NumParam.range : NumParam → Int × Int
  | .vRelease => (100, 800)
  | .vCapture => (50, 750)
  | .leanLimit => (500, 3500)
  | .rLean => (1, 100)
  | .rCapture => (1, 100)
  | .capWindow => (20, 500)
  | .capRate => (100, 3000)
  | .capTime => (500, 10000)
  | .tol => (50, 500)
  | .strokeClosedMax => (0, 4095)
  | .strokeOpenMin => (0, 4095)
  | .ilimT => (100, 2000)
  | .ilimS => (50, 800)
  | .supplyBudget => (200, 4000)
  | .prioT => (1, 7)
  | .prioS => (1, 7)
  | .vsupMin => (20000, 60000)
  | .tempMax => (600, 1400)
  | .wheelCirc => (500, 2500)
  | .wheelTeeth => (1, 64)

/-- The value of a numeric parameter. -/
def Params.num (p : Params) : NumParam → Int
  | .vRelease => p.vRelease
  | .vCapture => p.vCapture
  | .leanLimit => p.leanLimit
  | .rLean => p.rLean
  | .rCapture => p.rCapture
  | .capWindow => p.capWindow
  | .capRate => p.capRate
  | .capTime => p.capTime
  | .tol => p.tol
  | .strokeClosedMax => p.strokeClosedMax
  | .strokeOpenMin => p.strokeOpenMin
  | .ilimT => p.ilimT
  | .ilimS => p.ilimS
  | .supplyBudget => p.supplyBudget
  | .prioT => p.prioT
  | .prioS => p.prioS
  | .vsupMin => p.vsupMin
  | .tempMax => p.tempMax
  | .wheelCirc => p.wheelCirc
  | .wheelTeeth => p.wheelTeeth

/-- The store with a numeric parameter written. -/
def Params.setNum (p : Params) (n : NumParam) (x : Int) : Params :=
  match n with
  | .vRelease => { p with vRelease := x }
  | .vCapture => { p with vCapture := x }
  | .leanLimit => { p with leanLimit := x }
  | .rLean => { p with rLean := x }
  | .rCapture => { p with rCapture := x }
  | .capWindow => { p with capWindow := x }
  | .capRate => { p with capRate := x }
  | .capTime => { p with capTime := x }
  | .tol => { p with tol := x }
  | .strokeClosedMax => { p with strokeClosedMax := x }
  | .strokeOpenMin => { p with strokeOpenMin := x }
  | .ilimT => { p with ilimT := x }
  | .ilimS => { p with ilimS := x }
  | .supplyBudget => { p with supplyBudget := x }
  | .prioT => { p with prioT := x }
  | .prioS => { p with prioS := x }
  | .vsupMin => { p with vsupMin := x }
  | .tempMax => { p with tempMax := x }
  | .wheelCirc => { p with wheelCirc := x }
  | .wheelTeeth => { p with wheelTeeth := x }

/-- The cross-clamps of 11 R174, against the other member as the store holds it. -/
def Params.crossClamp (p : Params) (n : NumParam) (x : Int) : Int :=
  match n with
  | .vRelease => max x (p.vCapture + 50)
  | .vCapture => min x (p.vRelease - 50)
  | .strokeClosedMax => min x (p.strokeOpenMin - 256)
  | .strokeOpenMin => max x (p.strokeClosedMax + 256)
  | _ => x

/-- The value a numeric write stores: range first, then cross-clamp (11 R174). -/
def Params.clampNum (p : Params) (n : NumParam) (x : Int) : Int :=
  p.crossClamp n (clampTo n.range.1 n.range.2 x)

/-- The value of a calibration parameter. -/
def Params.cal (p : Params) : CalParam → Int
  | .zA => p.zA
  | .zB => p.zB
  | .zS => p.zS
  | .sA => p.sA
  | .sB => p.sB
  | .sS => p.sS

/-- The store with a calibration parameter written. -/
def Params.setCal (p : Params) (c : CalParam) (x : Int) : Params :=
  match c with
  | .zA => { p with zA := x }
  | .zB => { p with zB := x }
  | .zS => { p with zS := x }
  | .sA => { p with sA := x }
  | .sB => { p with sB := x }
  | .sS => { p with sS := x }

/-- Whether a calibration value may be written (11 R173): a zero in 0 to 4095, a scale in ±1024 but not 0. -/
def CalParam.admits : CalParam → Int → Bool
  | .zA, x | .zB, x | .zS, x => decide (0 ≤ x) && decide (x ≤ 4095)
  | .sA, x | .sB, x | .sS, x => decide (-1024 ≤ x) && decide (x ≤ 1024) && decide (x ≠ 0)

/-- The timeout code of a value. -/
def TimeoutCode.ofInt (x : Int) : Option TimeoutCode :=
  if x = 0 then some .code0 else if x = 1 then some .code1 else if x = 2 then some .code2
  else if x = 3 then some .code3 else if x = 4 then some .code4 else if x = 5 then some .code5 else none

/-- The value of a timeout code. -/
def TimeoutCode.toInt : TimeoutCode → Int
  | .code0 => 0
  | .code1 => 1
  | .code2 => 2
  | .code3 => 3
  | .code4 => 4
  | .code5 => 5

/-- MODE by value. -/
def Mode.ofInt (x : Int) : Option Mode := if x = 0 then some .auto else if x = 1 then some .manual else none

/-- The value of MODE. -/
def Mode.toInt : Mode → Int
  | .auto => 0
  | .manual => 1

/-- STEER_TRIP_ACT by value. -/
def TripAct.ofInt (x : Int) : Option TripAct := if x = 0 then some .disable else if x = 1 then some .report else none

/-- The value of STEER_TRIP_ACT. -/
def TripAct.toInt : TripAct → Int
  | .disable => 0
  | .report => 1

/-- COUNTER_MODE by value. -/
def CounterMode.ofInt (x : Int) : Option CounterMode :=
  if x = 0 then some .wrap else if x = 1 then some .saturate else none

/-- The value of COUNTER_MODE. -/
def CounterMode.toInt : CounterMode → Int
  | .wrap => 0
  | .saturate => 1

/-- The range of a gain (06 R114). -/
def Gain.range : Gain → Int × Int
  | .kp => (0, 1023)
  | .kd => (0, 1023)
  | .gs => (0, 255)
  | .cd => (0, 255)
  | .vbLo => (0, 1200)
  | .vbHi => (100, 1400)
  | .wMax => (0, 256)

/-! ## Layouts (11 R176): high byte first, two's complement -/

/-- One byte. -/
def be8 (x : Int) : List Byte := [BitVec.ofInt 8 x]

/-- Two bytes. -/
def be16 (x : Int) : List Byte :=
  let w := BitVec.ofInt 16 x
  [w.extractLsb' 8 8, w.extractLsb' 0 8]

/-- Four bytes. -/
def be32 (x : Int) : List Byte :=
  let w := BitVec.ofInt 32 x
  [w.extractLsb' 24 8, w.extractLsb' 16 8, w.extractLsb' 8 8, w.extractLsb' 0 8]

/-- A signed value of two bytes. -/
def int16 (hi lo : Byte) : Int := (hi ++ lo : BitVec 16).toInt

/-- A signed value of four bytes. -/
def int32 (b3 b2 b1 b0 : Byte) : Int := (b3 ++ b2 ++ b1 ++ b0 : BitVec 32).toInt

/-- A flag: 1 or 0. -/
def bit (b : Bool) : Int := if b then 1 else 0

/-- A flag byte or a bitmap: bit n is item n of the list. -/
def bitmap : List Bool → Int
  | [] => 0
  | b :: rest => bit b + 2 * bitmap rest

/-! ## Codes (11 R176) -/

def Regime.code : Regime → Int
  | .off => 0
  | .locked => 1
  | .releasing => 2
  | .active => 3
  | .capturing => 4
  | .engaging => 5
  | .failed => 6

/-- The capture cause; absent is 0. -/
def causeCode : Option CaptureCause → Int
  | none => 0
  | some .speed => 1
  | some .request => 2
  | some .stand => 3
  | some .fault => 4

def NoticeCause.code : NoticeCause → Int
  | .request => 0
  | .speed => 1
  | .stand => 2
  | .fault => 3
  | .timeout => 4
  | .clamp => 5
  | .reset => 6

def MeasState.code : MeasState → Int
  | .valid => 0
  | .single => 1
  | .held => 2
  | .lost => 3

def ChannelState.code : ChannelState → Int
  | .off => 0
  | .on => 1
  | .tripped => 2

def Severity.code : Severity → Int
  | .minor => 0
  | .major => 1

def ScanMode.code : ScanMode → Int
  | .continuous => 0
  | .single => 1

def StrokeClass.code : StrokeClass → Int
  | .unknown => 0
  | .closed => 1
  | .moving => 2
  | .opened => 3

def Solenoid.code : Solenoid → Int
  | .deEnergized => 0
  | .pullIn _ => 1
  | .holding => 2

/-- The lock timer purpose: NONE 0, RELEASE 1, ENGAGE 2. -/
def purposeCode : Option RunPurpose → Int
  | none => 0
  | some .release => 1
  | some .engage => 2

def CaptureTimer.code : CaptureTimer → Int
  | .stopped => 0
  | .running _ => 1
  | .expired => 2

/-- The milliseconds that remain; 0 unless RUNNING. -/
def CaptureTimer.left : CaptureTimer → Int
  | .running n => n
  | .stopped => 0
  | .expired => 0

/-- The fault kinds in the order of their ids (08 R137). -/
def FaultKind.list : List FaultKind :=
  [.leanDisagree, .leanRange, .barRange, .clampPosition, .releaseTimeout, .engageTimeout, .tiltDriveTrip,
    .steerDriveTrip, .leanExcess, .speedNoise, .supplyLow, .overtemp, .staleInput, .captureSlow]

/-- The id of a kind. -/
def FaultKind.id : FaultKind → Int
  | .leanDisagree => 0
  | .leanRange => 1
  | .barRange => 2
  | .clampPosition => 3
  | .releaseTimeout => 4
  | .engageTimeout => 5
  | .tiltDriveTrip => 6
  | .steerDriveTrip => 7
  | .leanExcess => 8
  | .speedNoise => 9
  | .supplyLow => 10
  | .overtemp => 11
  | .staleInput => 12
  | .captureSlow => 13

/-- The kind of an id. -/
def FaultKind.byId (n : Nat) : Option FaultKind := FaultKind.list[n]?

/-- The fixed kinds (08 R144). -/
def FaultKind.fixed : FaultKind → Bool
  | .leanDisagree | .leanRange | .clampPosition | .engageTimeout | .tiltDriveTrip | .staleInput => true
  | .barRange | .releaseTimeout | .steerDriveTrip | .leanExcess | .speedNoise | .supplyLow | .overtemp
  | .captureSlow => false

/-- The counters in the order of their ids (09 R152). -/
def CounterId.list : List CounterId :=
  [.releases, .engagements, .captureAborts, .releaseTimeouts, .targetClamps, .rateLimited, .disagreeSamples,
    .missedPeriods, .budgetCutPeriods, .speedGlitches, .framesGood, .framesBad, .framesOther, .replyCollisions,
    .repliesDropped, .faultsSet]

/-- The id of a counter. -/
def CounterId.id : CounterId → Int
  | .releases => 0
  | .engagements => 1
  | .captureAborts => 2
  | .releaseTimeouts => 3
  | .targetClamps => 4
  | .rateLimited => 5
  | .disagreeSamples => 6
  | .missedPeriods => 7
  | .budgetCutPeriods => 8
  | .speedGlitches => 9
  | .framesGood => 10
  | .framesBad => 11
  | .framesOther => 12
  | .replyCollisions => 13
  | .repliesDropped => 14
  | .faultsSet => 15

/-- The counter of an id. -/
def CounterId.byId (n : Nat) : Option CounterId := CounterId.list[n]?

/-- Which counters are 32 bits wide (09 R152). -/
def CounterId.wide : CounterId → Bool
  | .releases | .engagements | .targetClamps | .rateLimited | .disagreeSamples | .missedPeriods
  | .budgetCutPeriods | .framesGood | .framesOther => true
  | .captureAborts | .releaseTimeouts | .speedGlitches | .framesBad | .replyCollisions | .repliesDropped
  | .faultsSet => false

/-- The half value (09 R152). -/
def CounterId.halfValue (c : CounterId) : Nat := if c.wide then 2147483648 else 32768

/-- The full value (09 R152). -/
def CounterId.fullValue (c : CounterId) : Nat := if c.wide then 4294967295 else 65535

/-- The status codes (11 R169). -/
def Status.code : Status → Int
  | .ok => 0
  | .clamped => 1
  | .pending => 2
  | .refusedState => 3
  | .refusedRange => 4
  | .refusedFault => 5
  | .unknownKind => 6
  | .malformed => 7

/-- A reply with OK, CLAMPED or PENDING carries its payload; any other carries none (11 R170). -/
def Status.carriesPayload : Status → Bool
  | .ok | .clamped | .pending => true
  | .refusedState | .refusedRange | .refusedFault | .unknownKind | .malformed => false

/-! ## The check sequence (10 R164) -/

/-- One bit of the remainder's advance: generator x¹⁶ + x¹² + x⁵ + 1, most significant bit first. -/
def crcShift (r : BitVec 16) : BitVec 16 :=
  if r.getLsbD 15 then (r <<< 1) ^^^ 0x1021#16 else r <<< 1

/-- n bits of advance. -/
def crcShifts : Nat → BitVec 16 → BitVec 16
  | 0, r => r
  | n + 1, r => crcShifts n (crcShift r)

/-- One byte fed in. -/
def crcByte (r : BitVec 16) (b : Byte) : BitVec 16 := crcShifts 8 (r ^^^ (b.zeroExtend 16 <<< 8))

/-- The remainder over a list of bytes; the register starts at all ones. -/
def crc (bytes : List Byte) : BitVec 16 := bytes.foldl crcByte 0xFFFF#16

/-- The two check bytes, high byte first. -/
def checkBytes (bytes : List Byte) : List Byte :=
  let r := crc bytes
  [r.extractLsb' 8 8, r.extractLsb' 0 8]

/-! ## Frames and replies on the line (10 R165, 11 R176) -/

/-- The bytes of a reply from LEN through the last payload byte. -/
def Reply.body (r : Reply) : List Byte :=
  be8 (3 + r.payload.length) ++ [r.kind, r.tag] ++ be8 r.status.code ++ r.payload

/-- The characters of a reply in the order they are sent. -/
def Reply.chars (r : Reply) : List LineChar :=
  { data := Config.hostAddress, mark := true, stop := true } ::
    (r.body ++ checkBytes r.body).map fun b => { data := b, mark := false, stop := true }

/-- The bytes of a notice record (11 R176). -/
def Notice.bytes (n : Notice) : List Byte :=
  let stamp := be32 n.time.toNat
  let tail := be8 n.dropped
  match n.content with
  | .regime left entered cause => be8 1 ++ stamp ++ be8 left.code ++ be8 entered.code ++ be8 cause.code ++ be8 0 ++ tail
  | .faultSet kind severity => be8 2 ++ stamp ++ be8 kind.id ++ be8 severity.code ++ be16 0 ++ tail
  | .counterHalf id => be8 3 ++ stamp ++ be8 id.id ++ be8 0 ++ be16 0 ++ tail
  | .counterFull id => be8 4 ++ stamp ++ be8 id.id ++ be8 0 ++ be16 0 ++ tail
  | .budgetCut tilt steer => be8 5 ++ stamp ++ be16 tilt ++ be16 steer ++ tail
  | .captureAbort v => be8 6 ++ stamp ++ be16 v ++ be16 0 ++ tail
  | .standChange value => be8 7 ++ stamp ++ be8 (bit value) ++ be8 0 ++ be16 0 ++ tail

end Sys2Proof.Machine
end

