-- ==== Sys2Proof/Machine/Flags.lean ====
section
/-! DEFINITION. Sys2Proof/Machine/Flags.lean: the three-sample qualifier in both its forms, and every raw condition
that goes through one. -/

namespace Sys2Proof.Machine

/-- A two-valued qualifier evaluated with a raw value (03 R54). -/
def Qual.eval (q : Qual) (raw : Bool) : Qual :=
  if raw = q.value then { q with run := 0 }
  else if q.run + 1 < 3 then { q with run := q.run + 1 }
  else { value := raw, run := 0 }

/-- The rising edge from one value of a qualifier to the next (03 R54). -/
def rises (before after : Bool) : Bool := !before && after

/-- A multi-valued qualifier evaluated with a raw class (03 R55, 02 R35). -/
def ClassQual.eval (q : ClassQual) (raw : StrokeClass) : ClassQual :=
  if raw = q.cls then { q with candidate := none, run := 0 }
  else if q.candidate = some raw then
    if q.run + 1 < 3 then { q with run := q.run + 1 }
    else { cls := raw, candidate := none, run := 0 }
  else { q with candidate := some raw, run := 1 }

/-- A snapshot with no raw class is passed over (02 R35). -/
def ClassQual.evalRaw (q : ClassQual) : Option StrokeClass → ClassQual
  | none => q
  | some c => q.eval c

/-- The raw at-rail condition (03 R57). -/
def atRail (r : Nat) : Bool := decide (r ≤ 15) || decide (4080 ≤ r)

/-- The raw stroke class (02 R34). -/
def rawClass (p : Params) (r : Nat) : Option StrokeClass :=
  if atRail r then none
  else if (r : Int) ≤ p.strokeClosedMax then some .closed
  else if p.strokeOpenMin ≤ (r : Int) then some .opened
  else some .moving

/-- Raw echo mismatch (07 R123). -/
def echoRaw (ref i : Int) : Bool :=
  decide (50 ≤ mag ref) && decide (50 ≤ mag i) && decide (sgn i = -(sgn ref))

/-- Raw overcurrent against the held effective limit (07 R124). -/
def overRaw (limit i : Int) : Bool := decide ((limit * 3).tdiv 2 < mag i)

/-- Raw supply low (07 R131). -/
def supplyLowRaw (p : Params) (r : Nat) : Bool := decide (supplyMillivolts r < p.vsupMin)

/-- Raw over-temperature (07 R131). -/
def overTempRaw (p : Params) (r : Nat) : Bool := decide (p.tempMax < temperature r)

/-- Raw lean excess (05 R84). -/
def excessRaw (p : Params) (phi : Int) : Bool := decide (p.leanLimit + 300 < mag phi)

/-- Raw disagreement of the two lean angles (03 R62). -/
def disagreeRaw (p : Params) (phiA phiB : Int) : Bool := decide (p.tol < mag (phiA - phiB))

end Sys2Proof.Machine
end

