-- ==== Sys2Proof/Machine/Ops.lean ====
section
/-! DEFINITION. Sys2Proof/Machine/Ops.lean: the shared operations: reading and writing the tables, posting a notice,
counting, taking a detection, the commands the regime controller gives the clamp and the channels, and what goes into
the in-flight lists. -/

namespace Sys2Proof.Machine

/-! ## One update for each block of the state -/

def State.setCtl (s : State) (x : RegimeCtl) : State := { s with ctl := x }
def State.setClamp (s : State) (x : ClampCtl) : State := { s with clamp := x }
def State.setAcq (s : State) (x : Sequencer) : State := { s with acq := x }
def State.setWheel (s : State) (x : WheelUnit) : State := { s with wheel := x }
def State.setEst (s : State) (x : Estimator) : State := { s with est := x }
def State.setTarget (s : State) (x : TargetGen) : State := { s with target := x }
def State.setLaw (s : State) (x : ControlLaw) : State := { s with law := x }
def State.setTilt (s : State) (x : DriveChannel) : State := { s with tilt := x }
def State.setSteer (s : State) (x : DriveChannel) : State := { s with steer := x }
def State.setArbiter (s : State) (x : Arbiter) : State := { s with arbiter := x }
def State.setFaults (s : State) (x : FaultUnit) : State := { s with faults := x }
def State.setStats (s : State) (x : CounterTable) : State := { s with stats := x }
def State.setNotices (s : State) (x : NoticeQueue) : State := { s with notices := x }
def State.setParams (s : State) (x : Params) : State := { s with params := x }
def State.setLine (s : State) (x : StationLine) : State := { s with line := x }
def State.setFlight (s : State) (x : Flight) : State := { s with flight := x }

/-- The value of one input. -/
def PerInput.get {α : Type} (t : PerInput α) : Input → α
  | .leanA => t.leanA
  | .leanB => t.leanB
  | .bar => t.bar
  | .stroke => t.stroke
  | .iTilt => t.iTilt
  | .iSteer => t.iSteer
  | .vsup => t.vsup
  | .temp => t.temp

/-- The value of one input. -/
def PerInput.set {α : Type} (t : PerInput α) (k : Input) (x : α) : PerInput α :=
  match k with
  | .leanA => { t with leanA := x }
  | .leanB => { t with leanB := x }
  | .bar => { t with bar := x }
  | .stroke => { t with stroke := x }
  | .iTilt => { t with iTilt := x }
  | .iSteer => { t with iSteer := x }
  | .vsup => { t with vsup := x }
  | .temp => { t with temp := x }

/-- The value of one gain. -/
def PerGain.get {α : Type} (t : PerGain α) : Gain → α
  | .kp => t.kp
  | .kd => t.kd
  | .gs => t.gs
  | .cd => t.cd
  | .vbLo => t.vbLo
  | .vbHi => t.vbHi
  | .wMax => t.wMax

/-- The value of one gain. -/
def PerGain.set {α : Type} (t : PerGain α) (k : Gain) (x : α) : PerGain α :=
  match k with
  | .kp => { t with kp := x }
  | .kd => { t with kd := x }
  | .gs => { t with gs := x }
  | .cd => { t with cd := x }
  | .vbLo => { t with vbLo := x }
  | .vbHi => { t with vbHi := x }
  | .wMax => { t with wMax := x }

/-- The record of one fault kind (08 R137). -/
def FaultTable.get (t : FaultTable) : FaultKind → FaultRecord
  | .leanDisagree => t.leanDisagree
  | .leanRange => t.leanRange
  | .barRange => t.barRange
  | .clampPosition => t.clampPosition
  | .releaseTimeout => t.releaseTimeout
  | .engageTimeout => t.engageTimeout
  | .tiltDriveTrip => t.tiltDriveTrip
  | .steerDriveTrip => t.steerDriveTrip
  | .leanExcess => t.leanExcess
  | .speedNoise => t.speedNoise
  | .supplyLow => t.supplyLow
  | .overtemp => t.overtemp
  | .staleInput => t.staleInput
  | .captureSlow => t.captureSlow

/-- The record of one fault kind (08 R137). -/
def FaultTable.set (t : FaultTable) (k : FaultKind) (x : FaultRecord) : FaultTable :=
  match k with
  | .leanDisagree => { t with leanDisagree := x }
  | .leanRange => { t with leanRange := x }
  | .barRange => { t with barRange := x }
  | .clampPosition => { t with clampPosition := x }
  | .releaseTimeout => { t with releaseTimeout := x }
  | .engageTimeout => { t with engageTimeout := x }
  | .tiltDriveTrip => { t with tiltDriveTrip := x }
  | .steerDriveTrip => { t with steerDriveTrip := x }
  | .leanExcess => { t with leanExcess := x }
  | .speedNoise => { t with speedNoise := x }
  | .supplyLow => { t with supplyLow := x }
  | .overtemp => { t with overtemp := x }
  | .staleInput => { t with staleInput := x }
  | .captureSlow => { t with captureSlow := x }

/-- One counter (09 R152). -/
def CounterTable.get (t : CounterTable) : CounterId → Counter
  | .releases => t.releases
  | .engagements => t.engagements
  | .captureAborts => t.captureAborts
  | .releaseTimeouts => t.releaseTimeouts
  | .targetClamps => t.targetClamps
  | .rateLimited => t.rateLimited
  | .disagreeSamples => t.disagreeSamples
  | .missedPeriods => t.missedPeriods
  | .budgetCutPeriods => t.budgetCutPeriods
  | .speedGlitches => t.speedGlitches
  | .framesGood => t.framesGood
  | .framesBad => t.framesBad
  | .framesOther => t.framesOther
  | .replyCollisions => t.replyCollisions
  | .repliesDropped => t.repliesDropped
  | .faultsSet => t.faultsSet

/-- One counter (09 R152). -/
def CounterTable.set (t : CounterTable) (k : CounterId) (x : Counter) : CounterTable :=
  match k with
  | .releases => { t with releases := x }
  | .engagements => { t with engagements := x }
  | .captureAborts => { t with captureAborts := x }
  | .releaseTimeouts => { t with releaseTimeouts := x }
  | .targetClamps => { t with targetClamps := x }
  | .rateLimited => { t with rateLimited := x }
  | .disagreeSamples => { t with disagreeSamples := x }
  | .missedPeriods => { t with missedPeriods := x }
  | .budgetCutPeriods => { t with budgetCutPeriods := x }
  | .speedGlitches => { t with speedGlitches := x }
  | .framesGood => { t with framesGood := x }
  | .framesBad => { t with framesBad := x }
  | .framesOther => { t with framesOther := x }
  | .replyCollisions => { t with replyCollisions := x }
  | .repliesDropped => { t with repliesDropped := x }
  | .faultsSet => { t with faultsSet := x }

/-! ## Per-input tables -/

/-- One function on the value of every input. -/
def PerInput.map {α β : Type} (f : α → β) (t : PerInput α) : PerInput β :=
  { leanA := f t.leanA, leanB := f t.leanB, bar := f t.bar, stroke := f t.stroke, iTilt := f t.iTilt,
    iSteer := f t.iSteer, vsup := f t.vsup, temp := f t.temp }

/-- One function on the values of two tables, input by input. -/
def PerInput.zip {α β γ : Type} (f : α → β → γ) (t : PerInput α) (u : PerInput β) : PerInput γ :=
  { leanA := f t.leanA u.leanA, leanB := f t.leanB u.leanB, bar := f t.bar u.bar, stroke := f t.stroke u.stroke,
    iTilt := f t.iTilt u.iTilt, iSteer := f t.iSteer u.iSteer, vsup := f t.vsup u.vsup, temp := f t.temp u.temp }

/-- The values in the order of the inputs. -/
def PerInput.toList {α : Type} (t : PerInput α) : List α :=
  [t.leanA, t.leanB, t.bar, t.stroke, t.iTilt, t.iSteer, t.vsup, t.temp]

/-! ## The drive channels by name -/

/-- The channel named. -/
def State.channel (s : State) : Channel → DriveChannel
  | .tilt => s.tilt
  | .steer => s.steer

/-- The state with the channel named written. -/
def State.setChannel (s : State) (ch : Channel) (x : DriveChannel) : State :=
  match ch with
  | .tilt => s.setTilt x
  | .steer => s.setSteer x

/-- The station number: the value of the station straps plus 1 (10 R162). -/
def StationLine.station (l : StationLine) : Byte := l.stationStraps.zeroExtend 8 + 1

/-! ## Notices (09 R157 to R160) -/

/-- ALERT from the two inputs it depends on (09 R160). -/
def NoticeQueue.refreshAlert (q : NoticeQueue) : NoticeQueue :=
  { q with alert := !q.records.isEmpty || q.attention }

/-- The newest record gains a dropped count, stopping at 255 (09 R158). -/
def dropOnNewest : List Notice → List Notice
  | [] => []
  | [n] => [{ n with dropped := min (n.dropped + 1) Config.droppedMax }]
  | n :: m :: rest => n :: dropOnNewest (m :: rest)

/-- The records after a post stamped with the time given (09 R158). -/
def storeNotice (now : Stamp) (records : List Notice) (c : NoticeContent) : List Notice :=
  if records.length < Config.noticeSize then records ++ [{ content := c, time := now, dropped := 0 }]
  else dropOnNewest records

/-- A post to the notice queue, taken at once, with ALERT brought up to date (09 R158, R160). -/
def post (s : State) (c : NoticeContent) : State :=
  s.setNotices { s.notices with records := storeNotice s.notices.now s.notices.records c }.refreshAlert

/-! ## Counters (09 R153) -/

/-- The value after an increment. -/
def countUp (mode : CounterMode) (full value : Nat) : Nat :=
  if value < full then value + 1
  else match mode with
    | .saturate => value
    | .wrap => 0

/-- An increment brought the value to a mark. -/
def reaches (mark before after : Nat) : Bool := decide (after ≠ before) && decide (after = mark)

/-- A counter after an increment. -/
def Counter.increment (c : Counter) (mode : CounterMode) (id : CounterId) : Counter :=
  let v := countUp mode id.fullValue c.value
  { c with
    value := v
    half := c.half || reaches id.halfValue c.value v
    full := c.full || reaches id.fullValue c.value v }

/-- An increment of a counter, with the notices of the marks it reaches (09 R153). -/
def increment (s : State) (id : CounterId) : State :=
  let c := s.stats.get id
  let v := countUp s.params.counterMode id.fullValue c.value
  let s1 := s.setStats (s.stats.set id (c.increment s.params.counterMode id))
  let s2 := if reaches id.halfValue c.value v && !c.mask then post s1 (.counterHalf id) else s1
  if reaches id.fullValue c.value v && !c.mask then post s2 (.counterFull id) else s2

/-! ## Faults (08 R138 to R142) -/

/-- The records in the order of the ids. -/
def FaultTable.records (t : FaultTable) : List FaultRecord := FaultKind.list.map t.get

/-- A status is SET with this recorded severity (08 R141). -/
def FaultRecord.setAs (severity : Severity) (r : FaultRecord) : Bool :=
  match r.status with
  | some f => decide (f.severity = severity)
  | none => false

/-- A status is SET with its report mask clear (08 R141, 09 R160). -/
def FaultRecord.wantsAttention (r : FaultRecord) : Bool := r.status.isSome && !r.reportMask

/-- The summary brought up to date (08 R141). -/
def refreshSummary (s : State) : State :=
  s.setFaults { s.faults with
    majorPresent := s.faults.table.records.any (FaultRecord.setAs .major)
    minorPresent := s.faults.table.records.any (FaultRecord.setAs .minor) }

/-- The attention value given to the notice queue, and ALERT with it (08 R141, 09 R160). -/
def refreshAttention (s : State) : State :=
  s.setNotices
    { s.notices with attention := s.faults.table.records.any FaultRecord.wantsAttention }.refreshAlert

/-- The record of a kind written. -/
def setRecord (s : State) (k : FaultKind) (r : FaultRecord) : State :=
  s.setFaults { s.faults with table := s.faults.table.set k r }

/-- The first-fault pointer loaded if it is invalid and the report mask is clear (08 R142). -/
def loadPointer (s : State) (k : FaultKind) (r : FaultRecord) : State :=
  if s.faults.pointer.isNone && !r.reportMask then
    s.setFaults { s.faults with pointer := some { kind := k, time := s.notices.now } }
  else s

/-- A major-fault notification sent to the regime controller (08 R140). -/
def notify (s : State) (k : FaultKind) : State :=
  s.setFlight { s.flight with notifications := s.flight.notifications ++ [k] }

/-- A detection that is recorded, in the order of 08 R138. -/
def recordDetection (s : State) (k : FaultKind) (r : FaultRecord) : State :=
  let s1 := setRecord s k { r with status := some { severity := r.severity, time := s.notices.now } }
  let s2 := increment s1 .faultsSet
  let s3 := if r.reportMask then s2 else post s2 (.faultSet k r.severity)
  let s4 := refreshAttention (refreshSummary (loadPointer s3 k r))
  if r.severity = .major then notify s4 k else s4

/-- A repeat detection, with the recorded severity (08 R139). -/
def repeatDetection (s : State) (k : FaultKind) (recorded : Severity) : State :=
  let s1 := increment s .faultsSet
  if recorded = .major then notify s1 k else s1

/-- The fault unit takes a detection in the event that reports it (08 R138). -/
def detect (s : State) (k : FaultKind) : State :=
  let r := s.faults.table.get k
  if r.detectMask then s
  else match r.status with
    | none => recordDetection s k r
    | some f => repeatDetection s k f.severity

/-! ## The drive channels are told the regime (07 R119, R120) -/

/-- Where the TILT channel is enabled (07 R119). -/
def tiltEnabled (regime : Regime) (hold : Option Bool) : Bool :=
  match regime with
  | .releasing | .active | .capturing => true
  | .engaging | .failed => decide (hold = some true)
  | .off | .locked => false

/-- Where the STEER channel is enabled (07 R119). -/
def steerEnabled (regime : Regime) : Bool := decide (regime ≠ .off)

/-- A channel told whether it is enabled (07 R120). -/
def DriveChannel.told (c : DriveChannel) (enabled : Bool) : DriveChannel :=
  match c.state with
  | .off => if enabled then { c with state := .on, applied := 0 } else c
  | .on => if enabled then c else { c with state := .off, applied := 0 }
  | .tripped => c

/-- Both channels are told the regime and the hold flag as they stand (01 R3). -/
def tellChannels (s : State) : State :=
  (s.setTilt (s.tilt.told (tiltEnabled s.ctl.regime s.ctl.hold))).setSteer
    (s.steer.told (steerEnabled s.ctl.regime))

/-! ## The clamp takes the regime controller's commands (02 R32, R33, R37, R38) -/

/-- An energize command (02 R32). -/
def Solenoid.energize : Solenoid → Solenoid
  | .deEnergized => .pullIn Config.pullInMs
  | .pullIn left => .pullIn left
  | .holding => .holding

/-- An energize command given (02 R32). -/
def energize (s : State) : State := s.setClamp { s.clamp with solenoid := s.clamp.solenoid.energize }

/-- A de-energize command given (02 R33). -/
def deEnergize (s : State) : State := s.setClamp { s.clamp with solenoid := .deEnergized }

/-- The timeout in force for a purpose, ms (02 R37). -/
def lockTimeout (p : Params) : RunPurpose → Nat
  | .release => p.releaseTmo.ms
  | .engage => p.engageTmo.ms

/-- A start command for the lock timer (02 R37). -/
def startLock (s : State) (purpose : RunPurpose) : State :=
  s.setClamp { s.clamp with
    run := s.clamp.run + 1
    timer := .running purpose (lockTimeout s.params purpose) (lockTimeout s.params purpose) }

/-- A cancel command for the lock timer (02 R38). -/
def cancelLock (s : State) : State := s.setClamp { s.clamp with timer := .stopped }

/-! ## Replies (11 R170) -/

/-- What an owner makes of a request. -/
structure Answer where
  state : State
  status : Status
  payload : List Byte
  deriving DecidableEq, Repr

/-- A refusal changes nothing. -/
def refuse (s : State) (st : Status) : Answer := { state := s, status := st, payload := [] }

/-- The reply to a frame put in the reply buffer; a broadcast frame gets none (10 R165, 11 R170). The byte that
travels is KIND with 0x80 added, as a byte (log 19). -/
def putReply (s : State) (f : Frame) (st : Status) (payload : List Byte) : State :=
  if f.broadcast then s
  else s.setLine { s.line with
    tx := .turnaround
    reply := some
      { kind := f.kind + 0x80#8, tag := f.tag, status := st, payload := if st.carriesPayload then payload else [] } }

end Sys2Proof.Machine
end

