-- ==== Sys2Proof/Machine/Acquisition.lean ====
section
/-! DEFINITION. Sys2Proof/Machine/Acquisition.lean: the acquisition sequencer: periods, conversions, snapshots
(03 R44 to R48). -/

namespace Sys2Proof.Machine

/-- A period that has ended is settled (03 R48). -/
def settlePeriod (s : State) : State :=
  if s.acq.periodKind = .continuous ∧ s.acq.published = false then
    let s1 := increment s .missedPeriods
    if s.acq.missed < 3 then
      let s2 := s1.setAcq { s1.acq with missed := s1.acq.missed + 1 }
      if s2.acq.missed = 3 then detect s2 .staleInput else s2
    else s1
  else s

/-- A sequence as it starts, with its averaging count fixed (03 R45). -/
def Sequence.fresh (k : AvgCount) : Sequence := { k := k, done := 0, sum := 0, finished := [] }

/-- Steps 3 and 4 of a period start (03 R45). -/
def Sequencer.startPeriod (q : Sequencer) : Sequencer :=
  let q1 := { q with published := false, periodKind := q.scanMode, awaitingFirst := false }
  match q.scanMode with
  | .continuous => { q1 with inFlight := some (.fresh q.k) }
  | .single =>
    if q.singleWaiting then { q1 with inFlight := some (.fresh q.k), singleWaiting := false } else q1

/-- ACQUISITION_PERIOD_START (03 R45). The first period after a reset has no period before it to settle (R66,
log 11). -/
def execAcquisitionPeriodStart (s : State) : Host.Outcome State Fault Refusal :=
  let s1 := s.setAcq { s.acq with inFlight := none }
  let s2 := if s.acq.awaitingFirst then s1 else settlePeriod s1
  .next (s2.setAcq s2.acq.startPeriod)

/-- The eight results as a table by input. -/
def PerInput.ofResults : List Nat → Option (PerInput Nat)
  | [a, b, c, d, e, f, g, h] =>
    some { leanA := a, leanB := b, bar := c, stroke := d, iTilt := e, iSteer := f, vsup := g, temp := h }
  | _ => none

/-- The sequencer after it publishes the results (03 R47): the at-rail qualifiers are evaluated first. -/
def Sequencer.publish (q : Sequencer) (results : PerInput Nat) (stand : StandLevel) : Sequencer :=
  let rails := PerInput.zip Qual.eval q.railQual (results.map atRail)
  { q with
    railQual := rails
    last := { results := results, rail := rails.map Qual.value, stand := stand }
    fresh := .all true
    published := true
    missed := 0
    inFlight := none }

/-- A snapshot delivered to its five consumers (03 R47). -/
def deliverSnapshot (s : State) (p : Snapshot) : State :=
  s.setFlight { s.flight with
    snapEst := s.flight.snapEst ++ [p]
    snapClamp := s.flight.snapClamp ++ [p]
    snapTilt := s.flight.snapTilt ++ [p]
    snapSteer := s.flight.snapSteer ++ [p]
    snapArb := s.flight.snapArb ++ [p] }

/-- A sequence after one more result (03 R46). -/
def Sequence.take (q : Sequence) (result : Nat) : Sequence :=
  if q.done + 1 < q.k.toNat then { q with done := q.done + 1, sum := q.sum + result }
  else { q with done := 0, sum := 0, finished := q.finished ++ [(q.sum + result) / q.k.toNat] }

/-- CONVERSION_COMPLETE (03 R46, R47). The converter gives twelve bits (log 10). -/
def execConversionComplete (result : Nat) (stand : StandLevel) (s : State) : Host.Outcome State Fault Refusal :=
  match s.acq.inFlight with
  | none => .next s
  | some q =>
    let q1 := q.take (result % 4096)
    match PerInput.ofResults q1.finished with
    | none => .next (s.setAcq { s.acq with inFlight := some q1 })
    | some results =>
      let s1 := s.setAcq (s.acq.publish results stand)
      .next (deliverSnapshot s1 s1.acq.last)

end Sys2Proof.Machine
end

