-- ==== Sys2Proof/Machine/Clamp.lean ====
section
/-! DEFINITION. Sys2Proof/Machine/Clamp.lean: the clamp controller: stroke class, position forms, pull-in and lock
timer (02 R33 to R41). -/

namespace Sys2Proof.Machine

/-- Form 2, open while unpowered (02 R40). -/
def openWhileUnpowered (cls : StrokeClass) (solenoid : Solenoid) (regime : Regime) : Bool :=
  decide (cls = .opened) && decide (solenoid = .deEnergized) &&
    (decide (regime = .off) || decide (regime = .locked) || decide (regime = .failed))

/-- Form 3, shut while free (02 R40). -/
def shutWhileFree (cls : StrokeClass) (regime : Regime) : Bool :=
  (decide (cls = .closed) || decide (cls = .moving)) && decide (regime = .active)

/-- The clamp controller after a snapshot, with the regime as it stands (02 R35, R40). -/
def ClampCtl.next (c : ClampCtl) (p : Params) (regime : Regime) (n : Snapshot) : ClampCtl :=
  let stroke := c.stroke.evalRaw (rawClass p n.results.stroke)
  { c with
    stroke := stroke
    form1 := n.rail.stroke
    form2 := openWhileUnpowered stroke.cls c.solenoid regime
    form3 := shutWhileFree stroke.cls regime }

/-- At least one form rises (02 R40). -/
def formRises (before after : ClampCtl) : Bool :=
  rises before.form1 after.form1 || rises before.form2 after.form2 || rises before.form3 after.form3

/-- An event sent to the regime controller (02 R36). -/
def sendClampEvent (s : State) (e : ClampEvent) : State :=
  s.setFlight { s.flight with clampEvents := s.flight.clampEvents ++ [e] }

/-- The clamp controller takes a snapshot (02 R41). -/
def takeSnapshotAtClamp (n : Snapshot) (s : State) : State :=
  let after := s.clamp.next s.params s.ctl.regime n
  let s1 := s.setClamp after
  let s2 := if after.stroke.cls = s.clamp.stroke.cls then s1 else sendClampEvent s1 (.classChange after.stroke.cls)
  if formRises s.clamp after then detect s2 .clampPosition else s2

/-- SNAPSHOT_AT_CLAMP (02 R35). -/
def execSnapshotAtClamp (s : State) : Host.Outcome State Fault Refusal :=
  match s.flight.snapClamp with
  | [] => .next s
  | n :: rest => .next (takeSnapshotAtClamp n (s.setFlight { s.flight with snapClamp := rest }))

/-- PULL_IN_END (02 R33): phase HOLD once no pull-in remains (log 3). -/
def execPullInEnd (s : State) : Host.Outcome State Fault Refusal :=
  match s.clamp.solenoid with
  | .pullIn 0 => .next (s.setClamp { s.clamp with solenoid := .holding })
  | .pullIn (_ + 1) => .next s
  | .deEnergized => .next s
  | .holding => .next s

/-- LOCK_TIMER_EXPIRY (02 R38): a run with nothing left ends, and its expiry is sent (log 3). -/
def execLockTimerExpiry (s : State) : Host.Outcome State Fault Refusal :=
  match s.clamp.timer with
  | .running purpose _ 0 =>
    .next (sendClampEvent (s.setClamp { s.clamp with timer := .stopped }) (.lockExpiry s.clamp.run purpose))
  | .running _ _ (_ + 1) => .next s
  | .stopped => .next s

end Sys2Proof.Machine
end

