-- ==== Sys2Proof/Machine/Clock.lean ====
section
/-! DEFINITION. Sys2Proof/Machine/Clock.lean: a millisecond passes (09 R157): the timestamp count goes up, and the
timers that count by the millisecond go down (01 R15, 02 R32, R37; log 3). -/

namespace Sys2Proof.Machine

/-- The solenoid after a millisecond (02 R32). -/
def Solenoid.tick : Solenoid → Solenoid
  | .deEnergized => .deEnergized
  | .pullIn left => .pullIn (left - 1)
  | .holding => .holding

/-- The lock timer after a millisecond (02 R37). -/
def LockTimer.tick : LockTimer → LockTimer
  | .stopped => .stopped
  | .running purpose duration left => .running purpose duration (left - 1)

/-- The capture timer after a millisecond (01 R15). -/
def CaptureTimer.tick : CaptureTimer → CaptureTimer
  | .stopped => .stopped
  | .running left => .running (left - 1)
  | .expired => .expired

/-- The capture timer runs out at this millisecond (01 R15). -/
def CaptureTimer.runsOut : CaptureTimer → Bool
  | .running left => decide (left = 1)
  | .stopped => false
  | .expired => false

/-- TIMESTAMP_TICK (09 R157). A capture timer that runs out sends its expiry with its run number (01 R15). -/
def execTimestampTick (s : State) : Host.Outcome State Fault Refusal :=
  let s1 := s.setNotices { s.notices with now := s.notices.now + 1 }
  let s2 := s1.setClamp { s1.clamp with solenoid := s1.clamp.solenoid.tick, timer := s1.clamp.timer.tick }
  let s3 := s2.setCtl { s2.ctl with capTimer := s2.ctl.capTimer.tick }
  .next (if s.ctl.capTimer.runsOut then
    s3.setFlight { s3.flight with captureExpiries := s3.flight.captureExpiries ++ [s.ctl.capRun] }
  else s3)

end Sys2Proof.Machine
end

