-- ==== Sys2Proof/Machine/Target.lean ====
section
/-! DEFINITION. Sys2Proof/Machine/Target.lean: the target generator: lean map, target, commanded lean (05 R85 to
R100). -/

namespace Sys2Proof.Machine

/-! ## The kind of a decision (05 R95, 06 R104) -/

/-- The three kinds. -/
inductive Kind where
  | leaning | holding | following
  deriving DecidableEq, Repr

/-- The kind of a regime with its hold flag. -/
def kindOf (regime : Regime) (hold : Option Bool) : Kind :=
  match regime with
  | .active => .leaning
  | .releasing | .capturing => .holding
  | .engaging | .failed => if hold = some true then .holding else .following
  | .off | .locked => .following

/-! ## The map -/

/-- M[i][j] (05 R85). -/
def mapEntry (m : LeanMap) (i j : Nat) : Int := ((m[i]?).bind fun row => row[j]?).getD 0

/-- The map with one row replaced (05 R86). -/
def setRow (m : LeanMap) (i : Nat) (row : Vector Int 9) : LeanMap := if h : i < 8 then m.set i row h else m

/-- The speed row of a speed and the distance from it (05 R90). -/
def speedCell (v : Int) : Nat × Int :=
  let v' := min v 1400
  let i := min (v'.tdiv 200) 6
  (i.toNat, v' - 200 * i)

/-- The bar column of a bar angle and the distance from it (05 R90). -/
def barCell (bar : Int) : Nat × Int :=
  let d := clampTo (-2000) 2000 bar + 2000
  let j := min (d.tdiv 500) 7
  (j.toNat, d - 500 * j)

/-- From a toward b by n parts of m, truncated (05 R91). -/
def interpolate (a b n m : Int) : Int := a + ((b - a) * n).tdiv m

/-- The target of the map (05 R90, R91). -/
def mapTarget (m : LeanMap) (v bar : Int) : Int :=
  let (i, f) := speedCell v
  let (j, g) := barCell bar
  let top := interpolate (mapEntry m i j) (mapEntry m i (j + 1)) g 500
  let bot := interpolate (mapEntry m (i + 1) j) (mapEntry m (i + 1) (j + 1)) g 500
  interpolate top bot f 200

/-! ## The commanded lean -/

/-- φ_cmd after a step toward the target by at most the rate (05 R96). -/
def stepToward (target rate cmd : Int) : Int :=
  if mag (target - cmd) ≤ rate then target else if cmd < target then cmd + rate else cmd - rate

/-- The step is rate-limited (05 R96). -/
def stepLimited (target rate cmd : Int) : Bool := decide (rate < mag (target - cmd))

/-- A leaning or holding step, counted when it is limited (05 R96). -/
def moveToward (s : State) (target rate : Int) : State :=
  let limited := stepLimited target rate s.target.phiCmd
  let s1 := s.setTarget { s.target with
    target := some target, phiCmd := stepToward target rate s.target.phiCmd, limited := limited }
  if limited then increment s1 .rateLimited else s1

/-- A leaning decision (05 R90 to R93, R96). -/
def lean (s : State) (e : Estimate) : State :=
  let raw := mapTarget s.target.map s.wheel.v e.bar
  let s1 := if s.params.leanLimit < mag raw then increment s .targetClamps else s
  moveToward s1 (clampMag s.params.leanLimit raw) s.params.rLean

/-- A following decision (05 R97). -/
def follow (s : State) (e : Estimate) : State :=
  let cmd := match e.meas with
    | .valid | .single => clampMag s.params.leanLimit e.phi
    | .held | .lost => s.target.phiCmd
  s.setTarget { s.target with target := none, phiCmd := cmd, limited := false }

/-- T, φ_cmd and the flag formed for a decision (05 R95). -/
def formTarget (s : State) (d : Decision) : State :=
  match kindOf d.regime d.hold with
  | .leaning => lean s d.est
  | .holding => moveToward s 0 s.params.rCapture
  | .following => follow s d.est

/-- The target generator takes a decision and publishes φ_cmd with it (05 R94). -/
def takeDecision (d : Decision) (s : State) : State :=
  let s1 := formTarget s d
  s1.setFlight { s1.flight with
    leanCommands := s1.flight.leanCommands ++ [{ phiCmd := s1.target.phiCmd, decision := d }] }

/-- REGIME_DECISION (05 R95). -/
def execRegimeDecision (s : State) : Host.Outcome State Fault Refusal :=
  match s.flight.targetMsgs with
  | .decision d :: rest => .next (takeDecision d (s.setFlight { s.flight with targetMsgs := rest }))
  | .set _ :: _ => .next s
  | [] => .next s

/-- The target generator takes a set command (05 R98). -/
def takeSet (phi : Int) (s : State) : State :=
  s.setTarget { s.target with target := none, phiCmd := clampMag s.params.leanLimit phi, limited := false }

/-- SET_COMMAND (05 R98). -/
def execSetCommand (s : State) : Host.Outcome State Fault Refusal :=
  match s.flight.targetMsgs with
  | .set phi :: rest => .next (takeSet phi (s.setFlight { s.flight with targetMsgs := rest }))
  | .decision _ :: _ => .next s
  | [] => .next s

/-! ## Requests (05 R86, R88) -/

/-- An entry the map admits (05 R85). -/
def entryAdmitted (x : Int) : Bool := decide (-4500 ≤ x) && decide (x ≤ 4500)

/-- MAP_WRITE at the target generator (05 R86). -/
def takeMapWrite (row : Byte) (entries : Vector Int 9) (s : State) : Answer :=
  if 7 < row.toNat then refuse s .refusedRange
  else if s.ctl.regime ≠ .off ∧ s.ctl.regime ≠ .locked then refuse s .refusedState
  else if entries.toList.all entryAdmitted then
    { state := s.setTarget { s.target with map := setRow s.target.map row.toNat entries }, status := .ok, payload := [] }
  else refuse s .refusedRange

/-- MAP_READ at the target generator (05 R88). -/
def takeMapRead (row : Byte) (s : State) : Answer :=
  match s.target.map[row.toNat]? with
  | some entries => { state := s, status := .ok, payload := row :: entries.toList.flatMap be16 }
  | none => refuse s .refusedRange

end Sys2Proof.Machine
end

