-- ==== Sys2Proof/Machine/Control.lean ====
section
/-! DEFINITION. Sys2Proof/Machine/Control.lean: the control law unit: demands of a decision, applied and pending gains
(06 R102 to R116). -/

namespace Sys2Proof.Machine

/-! ## The formulas -/

/-- The lean correction (06 R105). -/
def correction (g : PerGain Int) (phiCmd : Int) (e : Estimate) : Int :=
  clampMag 4000 ((g.kp * (phiCmd - e.phi)).tdiv 64 - (g.kd * e.phiRate).tdiv 256)

/-- The blend weight of a leaning decision (06 R106). -/
def blendWeight (g : PerGain Int) (v : Int) : Int :=
  if v ≤ g.vbLo then 0
  else if g.vbHi ≤ v then g.wMax
  else (g.wMax * (v - g.vbLo)).tdiv (g.vbHi - g.vbLo)

/-- The raw tilt demand (06 R107). -/
def tiltDemand (u w limit : Int) : Int := clampMag limit ((u * (256 - w)).tdiv 256)

/-- The counter-steer (06 R108). -/
def counterSteer (g : PerGain Int) (u w : Int) : Int := (((-u) * w).tdiv 256 * g.gs).tdiv 64

/-- The bar damping (06 R109): the quotient truncates before the sign is applied. -/
def barDamping (g : PerGain Int) (barRate : Int) : Int := -((g.cd * barRate).tdiv 256)

/-- The raw steering demand (06 R109). -/
def steerDemand (c m limit : Int) : Int := clampMag limit (c + m)

/-- An effective limit, halved under foldback (06 R110). -/
def effectiveLimit (foldback : Bool) (limit : Int) : Int := if foldback then limit.tdiv 2 else limit

/-- What a decision leaves in the unit (06 R104 to R110). -/
def ControlLaw.next (l : ControlLaw) (p : Params) (v : Int) (hot : Bool) (c : LeanCommand) : ControlLaw :=
  let kind := kindOf c.decision.regime c.decision.hold
  let u := if kind = .following then 0 else correction l.applied c.phiCmd c.decision.est
  let w := if kind = .leaning then blendWeight l.applied v else 0
  let cs := if kind = .leaning then counterSteer l.applied u w else 0
  { l with
    foldback := hot
    w := w
    dT := if kind = .following then 0 else tiltDemand u w (effectiveLimit hot p.ilimT)
    dS := steerDemand cs (barDamping l.applied c.decision.est.barRate) (effectiveLimit hot p.ilimS) }

/-- The raw demands published with the effective limits (06 R103). -/
def demandsOf (l : ControlLaw) (p : Params) : Demands :=
  { dT := l.dT, dS := l.dS, limT := effectiveLimit l.foldback p.ilimT, limS := effectiveLimit l.foldback p.ilimS }

/-- The control law unit takes a commanded lean (06 R103). -/
def takeLeanCommand (c : LeanCommand) (s : State) : State :=
  let l := s.law.next s.params s.wheel.v s.arbiter.overTemp.value c
  let s1 := s.setLaw l
  s1.setFlight { s1.flight with demands := s1.flight.demands ++ [demandsOf l s.params] }

/-- DEMAND_COMPUTATION (06 R103). The demands of a decision wait for the apply commands given before it was
published (R115, log 16). -/
def execDemandComputation (s : State) : Host.Outcome State Fault Refusal :=
  match s.flight.leanCommands with
  | [] => .next s
  | c :: rest =>
    if c.decision.applies ≤ s.flight.appliesTaken then
      .next (takeLeanCommand c (s.setFlight { s.flight with leanCommands := rest }))
    else .next s

/-! ## Gains -/

/-- Every pending value applied (06 R115). -/
def ControlLaw.applyHeld (l : ControlLaw) : ControlLaw :=
  { l with
    applied :=
      { kp := l.held.kp.getD l.applied.kp, kd := l.held.kd.getD l.applied.kd, gs := l.held.gs.getD l.applied.gs,
        cd := l.held.cd.getD l.applied.cd, vbLo := l.held.vbLo.getD l.applied.vbLo,
        vbHi := l.held.vbHi.getD l.applied.vbHi, wMax := l.held.wMax.getD l.applied.wMax }
    held := .all none }

/-- APPLY_COMMAND (06 R115). -/
def execApplyCommand (s : State) : Host.Outcome State Fault Refusal :=
  if s.flight.appliesTaken < s.flight.appliesSent then
    .next ((s.setLaw s.law.applyHeld).setFlight { s.flight with appliesTaken := s.flight.appliesTaken + 1 })
  else .next s

/-- The effective next value of a gain (06 R114). -/
def ControlLaw.nextValue (l : ControlLaw) (g : Gain) : Int := (l.held.get g).getD (l.applied.get g)

/-- The cross-clamp of the blend speeds (06 R114). -/
def ControlLaw.crossClamp (l : ControlLaw) (g : Gain) (x : Int) : Int :=
  match g with
  | .vbLo => min x (l.nextValue .vbHi - 100)
  | .vbHi => max x (l.nextValue .vbLo + 100)
  | .kp | .kd | .gs | .cd | .wMax => x

/-- A gain value brought to its range and cross-clamp (06 R114). -/
def ControlLaw.clampGain (l : ControlLaw) (g : Gain) (x : Int) : Int :=
  l.crossClamp g (clampTo g.range.1 g.range.2 x)

/-- A gain write at the control law unit (06 R112, R113): applied at once in OFF and LOCKED, pending elsewhere. -/
def writeGain (g : Gain) (x : Int) (s : State) : State × Status :=
  let y := s.law.clampGain g x
  if s.ctl.regime = .off ∨ s.ctl.regime = .locked then
    (s.setLaw { s.law with applied := s.law.applied.set g y, held := s.law.held.set g none },
      if y = x then .ok else .clamped)
  else
    (s.setLaw { s.law with held := s.law.held.set g (some y) }, .pending)

end Sys2Proof.Machine
end

