-- ==== Sys2Proof/Machine/Drive.lean ====
section
/-! DEFINITION. Sys2Proof/Machine/Drive.lean: the drive channels and the supply budget arbiter (07 R119 to R134). -/

namespace Sys2Proof.Machine

/-! ## A snapshot at a channel (07 R122) -/

/-- The channel after steps 1 to 4 with its current sample. -/
def DriveChannel.next (c : DriveChannel) (r : Nat) : DriveChannel :=
  let i := bridgeCurrent r
  { c with
    current := i
    echo := c.echo.eval (echoRaw c.echoRef i)
    echoRef := c.applied
    overcurrent := c.overcurrent.eval (overRaw c.heldLimit i) }

/-- A trip event is due (07 R122). -/
def tripDue (before after : DriveChannel) : Bool :=
  rises before.echo.value after.echo.value || rises before.overcurrent.value after.overcurrent.value

/-- A channel out of service (07 R125). -/
def DriveChannel.trip (c : DriveChannel) : DriveChannel := { c with state := .tripped, applied := 0 }

/-- A trip event of the TILT channel (07 R125). -/
def tripTilt (s : State) : State := detect (s.setTilt s.tilt.trip) .tiltDriveTrip

/-- A trip event of the STEER channel (07 R126). -/
def tripSteer (s : State) : State :=
  if s.faults.table.steerDriveTrip.detectMask then s
  else match s.params.steerTripAct with
    | .disable => detect (s.setSteer s.steer.trip) .steerDriveTrip
    | .report => detect s .steerDriveTrip

/-- The TILT channel takes a snapshot. -/
def takeSnapshotAtTilt (n : Snapshot) (s : State) : State :=
  let after := s.tilt.next n.results.iTilt
  let s1 := s.setTilt after
  if tripDue s.tilt after then tripTilt s1 else s1

/-- The STEER channel takes a snapshot. -/
def takeSnapshotAtSteer (n : Snapshot) (s : State) : State :=
  let after := s.steer.next n.results.iSteer
  let s1 := s.setSteer after
  if tripDue s.steer after then tripSteer s1 else s1

/-- SNAPSHOT_AT_CHANNEL (07 R122). -/
def execSnapshotAtChannel (ch : Channel) (s : State) : Host.Outcome State Fault Refusal :=
  match ch with
  | .tilt =>
    match s.flight.snapTilt with
    | [] => .next s
    | n :: rest => .next (takeSnapshotAtTilt n (s.setFlight { s.flight with snapTilt := rest }))
  | .steer =>
    match s.flight.snapSteer with
    | [] => .next s
    | n :: rest => .next (takeSnapshotAtSteer n (s.setFlight { s.flight with snapSteer := rest }))

/-! ## Grants (07 R121) -/

/-- A channel takes its grant. -/
def DriveChannel.granted (c : DriveChannel) (grant limit : Int) : DriveChannel :=
  match c.state with
  | .on => { c with applied := grant, heldLimit := limit }
  | .off => { c with applied := 0, heldLimit := limit }
  | .tripped => { c with applied := 0, heldLimit := limit }

/-- Both channels take their grants in one event (07 R133). -/
def takeGrants (g : Grants) (s : State) : State :=
  (s.setTilt (s.tilt.granted g.gT g.limT)).setSteer (s.steer.granted g.gS g.limS)

/-- GRANT (07 R121). -/
def execGrant (s : State) : Host.Outcome State Fault Refusal :=
  match s.flight.grants with
  | [] => .next s
  | g :: rest => .next (takeGrants g (s.setFlight { s.flight with grants := rest }))

/-! ## A snapshot at the arbiter (07 R131) -/

/-- The arbiter's qualifiers after a snapshot. -/
def Arbiter.next (a : Arbiter) (p : Params) (n : Snapshot) : Arbiter :=
  { a with
    supplyLow := a.supplyLow.eval (supplyLowRaw p n.results.vsup)
    overTemp := a.overTemp.eval (overTempRaw p n.results.temp) }

/-- The arbiter takes a snapshot. Where both conditions rise at it, SUPPLY_LOW is reported before OVERTEMP: the model's
choice (log 28). -/
def takeSnapshotAtArbiter (n : Snapshot) (s : State) : State :=
  let after := s.arbiter.next s.params n
  let s1 := s.setArbiter after
  let s2 := if rises s.arbiter.supplyLow.value after.supplyLow.value then detect s1 .supplyLow else s1
  if rises s.arbiter.overTemp.value after.overTemp.value then detect s2 .overtemp else s2

/-- SNAPSHOT_AT_ARBITER (07 R131). -/
def execSnapshotAtArbiter (s : State) : Host.Outcome State Fault Refusal :=
  match s.flight.snapArb with
  | [] => .next s
  | n :: rest => .next (takeSnapshotAtArbiter n (s.setFlight { s.flight with snapArb := rest }))

/-! ## Arbitration (07 R132 to R134) -/

/-- The effective budget (07 R132). -/
def effectiveBudget (p : Params) (low : Bool) : Int := if low then p.supplyBudget.tdiv 2 else p.supplyBudget

/-- The demand with which a channel enters (07 R133). -/
def DriveChannel.entered (c : DriveChannel) (demand : Int) : Int := if c.state = .on then demand else 0

/-- A demand granted within what is left of the budget (07 R133). -/
def grantWithin (demand left : Int) : Int := sgn demand * min (mag demand) left

/-- The grants, TILT and STEER, of the entered demands: the channel of higher priority first, TILT at equal
priority (07 R133). -/
def grantsOf (p : Params) (budget dT dS : Int) : Int × Int :=
  if p.prioS ≤ p.prioT then
    let gT := grantWithin dT budget
    (gT, grantWithin dS (budget - mag gT))
  else
    let gS := grantWithin dS budget
    (grantWithin dT (budget - mag gS), gS)

/-- The arbiter takes the raw demands (07 R133, R134). -/
def takeDemands (d : Demands) (s : State) : State :=
  let budget := effectiveBudget s.params s.arbiter.supplyLow.value
  let dT := s.tilt.entered d.dT
  let dS := s.steer.entered d.dS
  let (gT, gS) := grantsOf s.params budget dT dS
  let cut := decide (mag gT < mag dT) || decide (mag gS < mag dS)
  let s1 := s.setArbiter { s.arbiter with budget := budget, cutRun := cut }
  let s2 := if cut then increment s1 .budgetCutPeriods else s1
  let s3 := if cut && !s.arbiter.cutRun then post s2 (.budgetCut gT gS) else s2
  s3.setFlight { s3.flight with
    grants := s3.flight.grants ++ [{ gT := gT, gS := gS, limT := d.limT, limS := d.limS }] }

/-- ARBITRATION (07 R133). -/
def execArbitration (s : State) : Host.Outcome State Fault Refusal :=
  match s.flight.demands with
  | [] => .next s
  | d :: rest => .next (takeDemands d (s.setFlight { s.flight with demands := rest }))

end Sys2Proof.Machine
end

