-- ==== Sys2Proof/Machine/Estimator.lean ====
section
/-! DEFINITION. Sys2Proof/Machine/Estimator.lean: the lean estimator takes a snapshot (03 R58 to R65, 05 R79 to
R84). -/

namespace Sys2Proof.Machine

/-- φ_A (03 R58). -/
def phiA (p : Params) (n : Snapshot) : Int := leanAngle n.results.leanA p.zA p.sA

/-- φ_B (03 R58). -/
def phiB (p : Params) (n : Snapshot) : Int := leanAngle n.results.leanB p.zB p.sB

/-- δ as the estimate carries it: 0 while BAR is qualified at rail (03 R59). -/
def barOf (p : Params) (n : Snapshot) : Int := if n.rail.bar then 0 else barAngle n.results.bar p.zS p.sS

/-- Neither lean input is qualified at rail (03 R62). -/
def leanUsable (n : Snapshot) : Bool := !n.rail.leanA && !n.rail.leanB

/-- Raw disagreement of a snapshot; agreement is checked only while both inputs are usable (03 R62). -/
def rawDisagreement (p : Params) (n : Snapshot) : Bool := leanUsable n && disagreeRaw p (phiA p n) (phiB p n)

/-- The disagreement qualifier after a snapshot (03 R62). -/
def disagreeAfter (p : Params) (n : Snapshot) (q : Qual) : Qual :=
  if leanUsable n then q.eval (rawDisagreement p n) else .start

/-- The measurement state and φ_meas, by the first row of 03 R63 that holds. -/
def measure (p : Params) (n : Snapshot) (disagree : Qual) (kept : Int) : MeasState × Int :=
  if n.rail.leanA ∧ n.rail.leanB then (.lost, kept)
  else if n.rail.leanA then (.single, phiB p n)
  else if n.rail.leanB then (.single, phiA p n)
  else if disagree.value then (.lost, kept)
  else if rawDisagreement p n then (.held, kept)
  else (.valid, (phiA p n + phiB p n).tdiv 2)

/-- A record pushed; the oldest goes when nine are held (05 R80). -/
def pushRecord (ring : List RingRecord) (r : RingRecord) : List RingRecord :=
  (if ring.length < Config.ringSize then ring else ring.tail) ++ [r]

/-- The ring after a snapshot: emptied at entry to LOST, left alone while LOST lasts, pushed otherwise (05 R80,
R81). -/
def ringAfter (before after : MeasState) (ring : List RingRecord) (r : RingRecord) : List RingRecord :=
  if after = .lost then (if before = .lost then ring else []) else pushRecord ring r

/-- A rate from the newest and the oldest value of a full ring (05 R82). -/
def rateOf (ring : List RingRecord) (value : RingRecord → Int) : Int :=
  if ring.length = Config.ringSize then
    match ring.head?, ring.getLast? with
    | some oldest, some newest => clampMag 30000 ((value newest - value oldest) * 125)
    | _, _ => 0
  else 0

/-- The estimator after a snapshot (03 R61 to R63, 05 R80 to R84). -/
def Estimator.next (e : Estimator) (p : Params) (n : Snapshot) : Estimator :=
  let disagree := disagreeAfter p n e.disagree
  let m := measure p n disagree e.phi
  let ring := ringAfter e.meas m.1 e.ring { phi := m.2, bar := barOf p n }
  { meas := m.1
    phi := m.2
    ring := ring
    phiRate := rateOf ring RingRecord.phi
    barRate := if n.rail.bar then 0 else rateOf ring RingRecord.bar
    disagree := disagree
    stand := e.stand.eval (decide (n.stand = .down))
    excess := if m.1 = .lost then e.excess else e.excess.eval (excessRaw p m.2)
    railA := n.rail.leanA
    railB := n.rail.leanB
    railBar := n.rail.bar }

/-- The estimate of a snapshot, from the estimator as it then stands (03 R65). -/
def estimateOf (e : Estimator) (p : Params) (n : Snapshot) : Estimate :=
  { meas := e.meas, phi := e.phi, bar := barOf p n, phiRate := e.phiRate, barRate := e.barRate,
    ringFull := decide (e.ring.length = Config.ringSize), stand := e.stand.value }

/-- What the estimator reports at a snapshot, from what it held before and after (03 R59, R61, R63, R64, 05 R84; the
order of log 13). -/
def reportSnapshot (before after : Estimator) (s : State) : State :=
  let s1 := if rises before.railBar after.railBar then detect s .barRange else s
  let s2 := if after.meas = .held then increment s1 .disagreeSamples else s1
  let s3 := if rises before.disagree.value after.disagree.value then detect s2 .leanDisagree else s2
  let s4 := if rises before.railA after.railA || rises before.railB after.railB then detect s3 .leanRange else s3
  let s5 := if before.stand.value = after.stand.value then s4 else post s4 (.standChange after.stand.value)
  if rises before.excess.value after.excess.value then detect s5 .leanExcess else s5

/-- The estimator takes a snapshot (03 R63, R65). -/
def takeSnapshotAtEstimator (n : Snapshot) (s : State) : State :=
  let after := s.est.next s.params n
  let s1 := reportSnapshot s.est after (s.setEst after)
  s1.setFlight { s1.flight with estimates := s1.flight.estimates ++ [estimateOf after s.params n] }

/-- SNAPSHOT_AT_ESTIMATOR (03 R63). -/
def execSnapshotAtEstimator (s : State) : Host.Outcome State Fault Refusal :=
  match s.flight.snapEst with
  | [] => .next s
  | n :: rest => .next (takeSnapshotAtEstimator n (s.setFlight { s.flight with snapEst := rest }))

end Sys2Proof.Machine
end

