-- ==== Sys2Proof/Machine/Resets.lean ====
section
/-! DEFINITION. Sys2Proof/Machine/Resets.lean: the cold and the warm reset (01 R29, R30, and the reset rules of every
chapter). -/

namespace Sys2Proof.Machine

/-- COLD_RESET (01 R30): every block at its defaults, with the straps sampled (10 R162). What was under way inside
the part is gone (log 9); the commands that wait outside stay in the queue. -/
def execColdReset (stationStraps rateStraps : Nat) (s : State) : Host.Outcome State Fault Refusal :=
  .next { State.coldStart (BitVec.ofNat 3 stationStraps) (BitVec.ofNat 2 rateStraps) with pending := s.pending }

/-- The regime controller after a warm reset (01 R29): the run number is kept. -/
def RegimeCtl.warm (c : RegimeCtl) : RegimeCtl := { RegimeCtl.start with capRun := c.capRun }

/-- A channel after a warm reset (07 R129). -/
def DriveChannel.warm (c : DriveChannel) (limit : Int) : DriveChannel :=
  match c.state with
  | .tripped => .start .tripped limit
  | .on => .start .off limit
  | .off => .start .off limit

/-- What is under way after a warm reset: class changes, expiries and notifications alone (01 R29, 02 R43, log 8). -/
def Flight.warm (f : Flight) : Flight :=
  { Flight.start with
    clampEvents := f.clampEvents, captureExpiries := f.captureExpiries, notifications := f.notifications }

/-- The queue of notices emptied (09 R161). -/
def NoticeQueue.emptied (q : NoticeQueue) : NoticeQueue := { q with records := [] }.refreshAlert

/-- Every block at the state a warm reset leaves it, before the REGIME notice (01 R29). -/
def warmBlocks (s : State) : State :=
  { ctl := s.ctl.warm
    clamp := .start
    acq := .start s.acq.k
    wheel := .start
    est := .start
    target := .start s.target.map
    law := .start s.law.applied s.law.held
    tilt := s.tilt.warm s.params.ilimT
    steer := s.steer.warm s.params.ilimS
    arbiter := .start s.params.supplyBudget
    faults := s.faults
    stats := s.stats
    notices := s.notices.emptied
    params := s.params
    line := .start s.line.stationStraps s.line.rateStraps
    flight := s.flight.warm
    pending := s.pending }

/-- The warm reset (01 R29): then the REGIME notice, if the regime was not OFF. -/
def warmReset (s : State) : State :=
  if s.ctl.regime = .off then warmBlocks s
  else post (warmBlocks s) (.regime s.ctl.regime .off .reset)

/-- The warm reset that takes effect when a RESTART's reply ends or is abandoned (01 R29, 10 R165). -/
def finishRestart (s : State) : State := if s.line.restartWaiting then warmReset s else s

end Sys2Proof.Machine
end

