-- ==== Sys2Proof/Machine/Line.lean ====
section
/-! DEFINITION. Sys2Proof/Machine/Line.lean: the station line interface: receiving frames and sending replies
(10 R162 to R167). -/

namespace Sys2Proof.Machine

/-! ## The receive side (10 R163, R164) -/

/-- The frame so far abandoned, counted, and the receive state that follows. -/
def abandonFrame (s : State) (rx : RxState) : State :=
  increment (s.setLine { s.line with rx := rx, buffer := [] }) .framesBad

/-- An address character for the part (10 R162). -/
def forPart (l : StationLine) (a : Byte) : Bool := decide (a = l.station) || decide (a = Config.broadcastAddress)

/-- The receive side takes an address character (10 R163). -/
def receiveAddress (s : State) (a : Byte) : State :=
  let s1 := if s.line.rx = .addressed then abandonFrame s .idle else s
  if forPart s.line a then
    s1.setLine { s1.line with rx := .addressed, buffer := [], toBroadcast := decide (a = Config.broadcastAddress) }
  else increment (s1.setLine { s1.line with rx := .skipping, buffer := [] }) .framesOther

/-- LEN lies in 2 to 60 (10 R164). -/
def lenAdmitted (len : Byte) : Bool := decide (2 ≤ len.toNat) && decide (len.toNat ≤ 60)

/-- The characters collected are the whole frame: LEN + 3 of them (10 R164). -/
def frameComplete (bytes : List Byte) : Bool :=
  match bytes with
  | [] => false
  | len :: _ => decide (bytes.length = len.toNat + 3)

/-- The check sequence of a whole frame agrees (10 R164). -/
def frameGood (bytes : List Byte) : Bool :=
  decide (checkBytes (bytes.take (bytes.length - 2)) = bytes.drop (bytes.length - 2))

/-- The request of a whole frame (10 R164). -/
def frameOf (bytes : List Byte) (broadcast : Bool) : Frame :=
  { kind := bytes.getD 1 0, tag := bytes.getD 2 0, payload := (bytes.take (bytes.length - 2)).drop 3,
    broadcast := broadcast }

/-- A whole frame checked, and handed on when good (10 R164). -/
def finishFrame (s : State) (bytes : List Byte) : State :=
  if frameGood bytes then
    let s1 := increment (s.setLine { s.line with rx := .idle, buffer := [] }) .framesGood
    s1.setFlight { s1.flight with frames := s1.flight.frames ++ [frameOf bytes s.line.toBroadcast] }
  else abandonFrame s .idle

/-- The receive side takes a data character (10 R163, R164). -/
def receiveData (s : State) (b : Byte) : State :=
  match s.line.rx with
  | .idle => s
  | .skipping => s
  | .addressed =>
    if s.line.buffer.isEmpty && !lenAdmitted b then abandonFrame s .skipping
    else
      let bytes := s.line.buffer ++ [b]
      if frameComplete bytes then finishFrame s bytes else s.setLine { s.line with buffer := bytes }

/-- The receive side takes a character with a framing error (10 R163). -/
def receiveFramingError (s : State) : State :=
  match s.line.rx with
  | .addressed => abandonFrame s .idle
  | .idle => s
  | .skipping => s

/-! ## The transmit side (10 R165 to R167) -/

/-- The reply is gone and the line released; the receive side stands in IDLE (10 R166, R167). -/
def dropReply (s : State) (id : CounterId) : State :=
  increment (s.setLine { s.line with tx := .idle, reply := none, rx := .idle, buffer := [] }) id

/-- The reply has ended by its last character (10 R165). -/
def endReply (s : State) : State := finishRestart (s.setLine { s.line with tx := .idle, reply := none })

/-- An address character that takes the line from a reply: the reply is dropped, the character is taken in IDLE, and
a RESTART's warm reset takes effect (10 R166, R167, 01 R29; log 21). -/
def addressTakesLine (s : State) (a : Byte) : State :=
  finishRestart (receiveAddress (dropReply s .repliesDropped) a)

/-- The characters of the reply in the reply buffer. -/
def sendingChars (l : StationLine) : List LineChar :=
  match l.reply with
  | some r => r.chars
  | none => []

/-- The reply can end as the next thing that happens to it: its last character is on the line, or it is over. -/
def replyAtEnd (l : StationLine) : Bool :=
  match l.tx with
  | .sending position => decide ((sendingChars l).length ≤ position + 1)
  | .turnaround => false
  | .idle => true

/-- WARM_RESET (01 R29): the reply of an accepted RESTART ends by its last character, and the warm reset takes effect.
It is no such end while another character of the reply is still to be sent, nor with no RESTART waiting, and then
changes nothing (log 7). -/
def execWarmReset (s : State) : Host.Outcome State Fault Refusal :=
  .next (if s.line.restartWaiting && replyAtEnd s.line then endReply s else s)

/-- A character read back in SENDING (10 R167). -/
def readBack (s : State) (position : Nat) (c : LineChar) : State :=
  match (sendingChars s.line)[position]? with
  | none => endReply s
  | some sent =>
    if c = sent then
      if position + 1 < (sendingChars s.line).length then s.setLine { s.line with tx := .sending (position + 1) }
      else endReply s
    else if c.mark && c.stop then addressTakesLine s c.data
    else finishRestart (dropReply s .replyCollisions)

/-- A character on the line, taken by the side whose turn it is (10 R163, R166, R167). -/
def takeCharacter (c : LineChar) (s : State) : State :=
  match s.line.tx with
  | .sending position => readBack s position c
  | .turnaround => if c.mark && c.stop then addressTakesLine s c.data else s
  | .idle =>
    if !c.stop then receiveFramingError s
    else if c.mark then receiveAddress s c.data
    else receiveData s c.data

/-- ADDRESS_CHARACTER (10 R163). A character whose start bit fell before the last reset ended is discarded (R168,
log 29). -/
def execAddressCharacter (value : AddressChar) (s : State) : Host.Outcome State Fault Refusal :=
  .next (match value.start with
    | .sinceReset => takeCharacter { data := value.data, mark := true, stop := true } s
    | .beforeReset => s)

/-- DATA_CHARACTER (10 R164). One that began before the last reset ended finds the receive side in IDLE, where it is
ignored, and so needs no operand to be discarded (R168, log 29). -/
def execDataCharacter (value : Byte) (s : State) : Host.Outcome State Fault Refusal :=
  .next (takeCharacter { data := value, mark := false, stop := true } s)

/-- FRAMING_ERROR_CHARACTER (10 R163): a stop bit sampled low; the other bits do not matter. In IDLE it is ignored, as
R168 asks of one that began before the last reset ended (log 29). -/
def execFramingErrorCharacter (s : State) : Host.Outcome State Fault Refusal :=
  .next (takeCharacter { data := 0, mark := false, stop := false } s)

/-- READBACK_CHARACTER (10 R167): the part has driven it since its last reset (log 29). Outside SENDING a character is an
ordinary one (log 20). -/
def execReadbackCharacter (c : LineChar) (s : State) : Host.Outcome State Fault Refusal :=
  .next (takeCharacter c s)

/-- GAP_TIMER_EXPIRY (10 R163): more than 1000 µs in ADDRESSED without a character (log 5). -/
def execGapTimerExpiry (elapsed : Nat) (s : State) : Host.Outcome State Fault Refusal :=
  if s.line.rx = .addressed ∧ Config.gapLimit < elapsed then .next (abandonFrame s .idle) else .next s

/-- TURNAROUND_EXPIRY (10 R165): 100 µs after the request's last character, the reply is sent (log 5). -/
def execTurnaroundExpiry (elapsed : Nat) (s : State) : Host.Outcome State Fault Refusal :=
  if s.line.tx = .turnaround ∧ Config.turnaroundTime ≤ elapsed then
    .next (s.setLine { s.line with tx := .sending 0 })
  else .next s

end Sys2Proof.Machine
end

