-- ==== Sys2Proof/Machine/Regime.lean ====
section
/-! DEFINITION. Sys2Proof/Machine/Regime.lean: the regime controller (01 R1 to R28). -/

namespace Sys2Proof.Machine

/-! ## Changing the regime -/

/-- A change of regime handed to the channels and announced (01 R3, R4). -/
def enterRegime (s : State) (ctl : RegimeCtl) (cause : NoticeCause) : State :=
  post (tellChannels (s.setCtl ctl)) (.regime s.ctl.regime ctl.regime cause)

/-- The set and apply commands given on entry to RELEASING (01 R10). -/
def giveEntryCommands (s : State) : State :=
  s.setFlight { s.flight with
    targetMsgs := s.flight.targetMsgs ++ [.set s.ctl.latest.phi]
    appliesSent := s.flight.appliesSent + 1 }

/-- Entry to RELEASING (01 R10). -/
def enterReleasing (s : State) (cause : NoticeCause) : State :=
  let s1 := startLock (energize s) .release
  giveEntryCommands (enterRegime s1 { s1.ctl with regime := .releasing, purpose := some .release } cause)

/-- The REGIME notice cause of a capture cause (01 R4). -/
def CaptureCause.notice : CaptureCause → NoticeCause
  | .speed => .speed
  | .request => .request
  | .stand => .stand
  | .fault => .fault

/-- The capture timer started under a new run number (01 R15, R22). -/
def RegimeCtl.startCapture (c : RegimeCtl) (p : Params) : RegimeCtl :=
  { c with capTimer := .running p.capTime.toNat, capRun := c.capRun + 1 }

/-- Entry to CAPTURING (01 R15). -/
def enterCapturing (s : State) (cause : CaptureCause) : State :=
  enterRegime s
    { s.ctl.startCapture s.params with
      regime := .capturing, cause := some cause, forced := decide (cause = .fault) }
    cause.notice

/-- The measurement and the tilt drive let the linkage be held (01 R24). -/
def holdPossible (s : State) : Bool :=
  (decide (s.est.meas = .valid) || decide (s.est.meas = .single)) && decide (s.tilt.state ≠ .tripped)

/-- Entry to ENGAGING (01 R24); `mayHold` is false for a STALE_INPUT notification and for a loss of measurement
(R23, log 23). -/
def enterEngaging (s : State) (forced mayHold : Bool) (cause : NoticeCause) : State :=
  let s1 := startLock (deEnergize s) .engage
  enterRegime s1
    { s1.ctl with
      regime := .engaging, cause := none, forced := forced, hold := some (mayHold && holdPossible s1),
      purpose := some .engage, capTimer := .stopped }
    cause

/-- The hold ends (01 R24, R27): the flag is cleared and the channels are told. -/
def endHold (s : State) : State :=
  if s.ctl.hold = some true then tellChannels (s.setCtl { s.ctl with hold := some false }) else s

/-- A capture called off (01 R17, R18): to ACTIVE, the two notices, then the count (log 12). -/
def abortCapture (s : State) (cause : NoticeCause) : State :=
  let s1 := enterRegime s { s.ctl with regime := .active, cause := none, capTimer := .stopped } cause
  increment (post s1 (.captureAbort s.wheel.v)) .captureAborts

/-! ## The estimate (01 R2) -/

/-- The release conditions (01 R7). -/
def releaseConditions (s : State) : Bool :=
  !s.faults.majorPresent && decide (s.tilt.state ≠ .tripped) && decide (s.ctl.latest.meas = .valid) &&
    s.ctl.latest.ringFull && !s.ctl.latest.stand && decide (s.clamp.stroke.cls = .closed)

/-- Loss of measurement (01 R23). -/
def loseMeasurement (s : State) : State := enterEngaging s true false .fault

/-- An estimate in LOCKED (01 R8). -/
def estimateInLocked (s : State) : State :=
  if s.params.mode = .auto ∧ s.params.vRelease ≤ s.wheel.v ∧ releaseConditions s = true then
    enterReleasing s .speed
  else s

/-- An estimate in ACTIVE that is not LOST (01 R14). -/
def estimateInActive (e : Estimate) (s : State) : State :=
  if e.stand then enterCapturing s .stand
  else if s.wheel.v < s.params.vCapture then enterCapturing s .speed
  else s

/-- The abort by speed is due (01 R17). -/
def abortDue (e : Estimate) (s : State) : Bool :=
  decide (s.params.mode = .auto) && decide (s.ctl.cause = some .speed) && decide (s.params.vRelease ≤ s.wheel.v) &&
    !e.stand

/-- The capture is complete (01 R16). -/
def captureComplete (e : Estimate) (s : State) : Bool :=
  (decide (e.meas = .valid) || decide (e.meas = .single)) && decide (s.target.phiCmd = 0) &&
    decide (mag e.phi ≤ s.params.capWindow) && decide (mag e.phiRate ≤ s.params.capRate)

/-- The REGIME notice cause of a capture that completes (01 R4). -/
def completionCause (c : Option CaptureCause) : NoticeCause :=
  match c with
  | some cause => cause.notice
  | none => .request

/-- An estimate in CAPTURING that is not LOST (01 R16, R17). -/
def estimateInCapturing (e : Estimate) (s : State) : State :=
  if abortDue e s then abortCapture s .speed
  else if captureComplete e s then enterEngaging s s.ctl.forced true (completionCause s.ctl.cause)
  else s

/-- An estimate in ENGAGING or FAILED (01 R24, R27). -/
def estimateInHold (e : Estimate) (s : State) : State :=
  if e.meas = .lost ∨ s.tilt.state = .tripped then endHold s else s

/-- The checks of the regime in force (01 R2). -/
def estimateChecks (e : Estimate) (s : State) : State :=
  match s.ctl.regime with
  | .off => s
  | .locked => estimateInLocked s
  | .releasing => if e.meas = .lost then loseMeasurement s else s
  | .active => if e.meas = .lost then loseMeasurement s else estimateInActive e s
  | .capturing => if e.meas = .lost then loseMeasurement s else estimateInCapturing e s
  | .engaging => estimateInHold e s
  | .failed => estimateInHold e s

/-- The regime decision of the period (01 R2), with the apply commands given so far (log 16). -/
def decisionOf (e : Estimate) (s : State) : Decision :=
  { regime := s.ctl.regime, hold := s.ctl.hold, est := e, applies := s.flight.appliesSent }

/-- The regime decision published (01 R2). -/
def publishDecision (e : Estimate) (s : State) : State :=
  s.setFlight { s.flight with targetMsgs := s.flight.targetMsgs ++ [.decision (decisionOf e s)] }

/-- The latest estimate that an estimate leaves (01 R2). -/
def latestOf (e : Estimate) : LatestEstimate :=
  { meas := e.meas, phi := e.phi, ringFull := e.ringFull, stand := e.stand }

/-- The regime controller takes an estimate (01 R2). -/
def takeEstimate (e : Estimate) (s : State) : State :=
  publishDecision e (estimateChecks e (s.setCtl { s.ctl with latest := latestOf e }))

/-- ESTIMATE (01 R2). -/
def execEstimate (s : State) : Host.Outcome State Fault Refusal :=
  match s.flight.estimates with
  | [] => .next s
  | e :: rest => .next (takeEstimate e (s.setFlight { s.flight with estimates := rest }))

/-! ## Class changes and expiries -/

/-- A release confirmed (01 R11). -/
def confirmRelease (s : State) : State :=
  let s1 := cancelLock s
  increment (enterRegime s1 { s1.ctl with regime := .active, purpose := none } .clamp) .releases

/-- An engagement confirmed (01 R25). -/
def confirmEngagement (s : State) : State :=
  let s1 := cancelLock s
  increment
    (enterRegime s1 { s1.ctl with regime := .locked, purpose := none, hold := none, forced := false } .clamp)
    .engagements

/-- The regime controller takes a class change (02 R36, 01 R11, R25, R27). -/
def takeClassChange (cls : StrokeClass) (s : State) : State :=
  match s.ctl.regime, cls with
  | .releasing, .opened => confirmRelease s
  | .engaging, .closed => confirmEngagement s
  | .failed, .closed => endHold s
  | _, _ => s

/-- CLASS_CHANGE (02 R36). -/
def execClassChange (s : State) : Host.Outcome State Fault Refusal :=
  match s.flight.clampEvents with
  | .classChange cls :: rest => .next (takeClassChange cls (s.setFlight { s.flight with clampEvents := rest }))
  | .lockExpiry _ _ :: _ => .next s
  | [] => .next s

/-- A release that timed out (01 R12). -/
def releaseTimedOut (s : State) : State :=
  let s1 := deEnergize s
  let s2 := enterRegime s1 { s1.ctl with regime := .locked, purpose := none } .timeout
  increment (detect s2 .releaseTimeout) .releaseTimeouts

/-- An engagement that timed out (01 R26). -/
def engageTimedOut (s : State) : State :=
  detect (enterRegime s { s.ctl with regime := .failed, purpose := none, forced := false } .timeout) .engageTimeout

/-- The regime controller takes a lock timer expiry (02 R39, 01 R12, R26). -/
def takeLockExpiry (run : RunNumber) (s : State) : State :=
  if run = s.clamp.run then
    match s.ctl.regime, s.ctl.purpose with
    | .releasing, some .release => releaseTimedOut s
    | .engaging, some .engage => engageTimedOut s
    | _, _ => s
  else s

/-- LOCK_TIMER_EXPIRY_TAKEN (02 R39). -/
def execLockTimerExpiryTaken (s : State) : Host.Outcome State Fault Refusal :=
  match s.flight.clampEvents with
  | .lockExpiry run _ :: rest => .next (takeLockExpiry run (s.setFlight { s.flight with clampEvents := rest }))
  | .classChange _ :: _ => .next s
  | [] => .next s

/-- The regime controller takes a capture timer expiry (01 R15, R19). -/
def takeCaptureExpiry (run : RunNumber) (s : State) : State :=
  match s.ctl.regime, s.ctl.capTimer with
  | .capturing, .running _ =>
    if run = s.ctl.capRun then
      if s.ctl.forced then enterEngaging s true true .timeout
      else
        let s1 := detect s .captureSlow
        s1.setCtl { s1.ctl with capTimer := .expired }
    else s
  | _, _ => s

/-- CAPTURE_TIMER_EXPIRY (01 R19). -/
def execCaptureTimerExpiry (s : State) : Host.Outcome State Fault Refusal :=
  match s.flight.captureExpiries with
  | [] => .next s
  | run :: rest => .next (takeCaptureExpiry run (s.setFlight { s.flight with captureExpiries := rest }))

/-! ## Major faults (01 R21, R22) -/

/-- The lean can no longer be steered to upright: measurement LOST or TILT TRIPPED (01 R21, R24). -/
def leanOutOfHand (s : State) : Bool := decide (s.est.meas = .lost) || decide (s.tilt.state = .tripped)

/-- A notification is engagement-forcing (01 R21). -/
def engagementForcing (k : FaultKind) (s : State) : Bool :=
  leanOutOfHand s || decide (k = .clampPosition) || decide (k = .staleInput)

/-- A capture becomes forced (01 R22). -/
def forceCapture (s : State) : State :=
  s.setCtl { s.ctl.startCapture s.params with cause := some .fault, forced := true }

/-- The regime controller takes a major-fault notification (01 R21, R22). -/
def takeNotification (k : FaultKind) (s : State) : State :=
  let mayHold := decide (k ≠ .staleInput)
  match s.ctl.regime with
  | .off => s
  | .locked => s
  | .releasing => enterEngaging s true mayHold .fault
  | .active => if engagementForcing k s then enterEngaging s true mayHold .fault else enterCapturing s .fault
  | .capturing =>
    if engagementForcing k s then enterEngaging s true mayHold .fault
    else if s.ctl.forced then s
    else forceCapture s
  | .engaging => if leanOutOfHand s then endHold s else s
  | .failed => if leanOutOfHand s then endHold s else s

/-- MAJOR_FAULT_NOTIFICATION (01 R21). -/
def execMajorFaultNotification (s : State) : Host.Outcome State Fault Refusal :=
  match s.flight.notifications with
  | [] => .next s
  | k :: rest => .next (takeNotification k (s.setFlight { s.flight with notifications := rest }))

/-! ## The host's commands (01 R5, R6, R9, R13, R18) -/

/-- A command answered OK with the regime in force after it (11 R172). -/
def commandOk (s : State) : Answer := { state := s, status := .ok, payload := be8 s.ctl.regime.code }

/-- ARM at the regime controller (01 R5). -/
def takeArm (s : State) : Answer :=
  match s.ctl.regime with
  | .off =>
    if s.faults.majorPresent then refuse s .refusedFault
    else if s.clamp.stroke.cls ≠ .closed then refuse s .refusedState
    else if s.acq.scanMode ≠ .continuous then refuse s .refusedState
    else commandOk (enterRegime s { s.ctl with regime := .locked } .request)
  | .locked | .releasing | .active | .capturing | .engaging => commandOk s
  | .failed => refuse s .refusedState

/-- DISARM at the regime controller (01 R6). -/
def takeDisarm (s : State) : Answer :=
  match s.ctl.regime with
  | .locked => commandOk (enterRegime s { s.ctl with regime := .off } .request)
  | .off | .releasing | .active | .capturing | .engaging | .failed => refuse s .refusedState

/-- RELEASE in LOCKED (01 R9). -/
def releaseFromLocked (s : State) : Answer :=
  if s.params.vCapture ≤ s.wheel.v ∧ releaseConditions s = true then commandOk (enterReleasing s .request)
  else if s.faults.majorPresent = true ∨ s.tilt.state = .tripped then refuse s .refusedFault
  else refuse s .refusedState

/-- RELEASE in CAPTURING (01 R18). -/
def releaseFromCapturing (s : State) : Answer :=
  if s.ctl.cause = some .fault ∨ s.faults.majorPresent = true then refuse s .refusedFault
  else if s.ctl.latest.stand = true ∨ s.wheel.v < s.params.vCapture then refuse s .refusedState
  else commandOk (abortCapture s .request)

/-- RELEASE at the regime controller (01 R9). -/
def takeRelease (s : State) : Answer :=
  match s.ctl.regime with
  | .locked => releaseFromLocked s
  | .off | .engaging | .failed => refuse s .refusedState
  | .releasing | .active => commandOk s
  | .capturing => releaseFromCapturing s

/-- LOCK at the regime controller (01 R13). -/
def takeLock (s : State) : Answer :=
  match s.ctl.regime with
  | .off | .failed => refuse s .refusedState
  | .locked | .engaging => commandOk s
  | .releasing => commandOk (enterEngaging s false true .request)
  | .active => commandOk (enterCapturing s .request)
  | .capturing =>
    if s.ctl.cause = some .speed then commandOk (s.setCtl { s.ctl with cause := some .request }) else commandOk s

/-- RESTART is accepted in these regimes (01 R29). -/
def restartAccepted (s : State) : Bool :=
  match s.ctl.regime with
  | .off | .locked | .failed => true
  | .releasing | .active | .capturing | .engaging => false

end Sys2Proof.Machine
end

