-- ==== Sys2Proof/Machine/FaultRequests.lean ====
section
/-! DEFINITION. Sys2Proof/Machine/FaultRequests.lean: what the fault unit, the statistics unit, the notice queue and
the sequencer make of the host's requests (08 R143 to R149, 09 R155, R159, 03 R49 to R53). -/

namespace Sys2Proof.Machine

/-! ## Fault configuration (08 R143, R144) -/

/-- The four bytes of a FAULT_CONFIG reply. -/
def configBytes (k : FaultKind) (r : FaultRecord) : List Byte :=
  be8 k.id ++ be8 r.severity.code ++ be8 (bit r.detectMask) ++ be8 (bit r.reportMask)

/-- The record of a kind after a FAULT_CONFIG that passed the range tests. -/
def FaultRecord.configure (r : FaultRecord) (k : FaultKind) (severity : Severity) (detectMask reportMask : Bool) :
    FaultRecord :=
  if k.fixed then { r with severity := .major, detectMask := false, reportMask := reportMask }
  else { r with severity := severity, detectMask := detectMask, reportMask := reportMask }

/-- FAULT_CONFIG at the fault unit. -/
def takeFaultConfig (kind severity detectMask reportMask : Byte) (s : State) : Answer :=
  match FaultKind.byId kind.toNat with
  | none => refuse s .refusedRange
  | some k =>
    if 1 < severity.toNat ∨ 1 < detectMask.toNat ∨ 1 < reportMask.toNat then refuse s .refusedRange
    else
      let sev := if severity.toNat = 1 then Severity.major else Severity.minor
      let det := decide (detectMask.toNat = 1)
      let r := (s.faults.table.get k).configure k sev det (decide (reportMask.toNat = 1))
      { state := refreshAttention (setRecord s k r)
        status := if k.fixed && (decide (sev = .minor) || det) then .clamped else .ok
        payload := configBytes k r }

/-! ## Clearing (08 R146, R147; 07 R128) -/

/-- The channel whose trip kind this is (07 R119). -/
def FaultKind.tripChannel : FaultKind → Option Channel
  | .tiltDriveTrip => some .tilt
  | .steerDriveTrip => some .steer
  | .leanDisagree | .leanRange | .barRange | .clampPosition | .releaseTimeout | .engageTimeout | .leanExcess
  | .speedNoise | .supplyLow | .overtemp | .staleInput | .captureSlow => none

/-- A channel takes the clearing of its trip status (07 R128). -/
def DriveChannel.restore (c : DriveChannel) (enabled : Bool) : DriveChannel :=
  match c.state with
  | .tripped => { c with state := if enabled then .on else .off, applied := 0 }
  | .on => c
  | .off => c

/-- The clearing of a kind handed to its channel, if it has one. -/
def handClearing (k : FaultKind) (s : State) : State :=
  match k.tripChannel with
  | some .tilt => s.setTilt (s.tilt.restore (tiltEnabled s.ctl.regime s.ctl.hold))
  | some .steer => s.setSteer (s.steer.restore (steerEnabled s.ctl.regime))
  | none => s

/-- A named kind may be cleared in the regime in force (08 R147). -/
def mayClear (k : FaultKind) (regime : Regime) : Bool :=
  k.tripChannel.isNone || decide (regime = .off) || decide (regime = .locked)

/-- One kind named by a FAULT_CLEAR (08 R146). -/
def clearKind (s : State) (k : FaultKind) : State :=
  let r := s.faults.table.get k
  if r.status.isSome && mayClear k s.ctl.regime then
    let pointer := match s.faults.pointer with
      | some p => if p.kind = k then none else some p
      | none => none
    handClearing k (s.setFaults { s.faults with
      table := s.faults.table.set k { r with status := none }, pointer := pointer })
  else s

/-- The kinds a bitmap names, in the order of the ids. -/
def kindsNamed (bits : BitVec 16) : List FaultKind :=
  FaultKind.list.filter fun k => bits.getLsbD k.id.toNat

/-- The bitmap of the kinds for which a test holds. -/
def kindBitmap (test : FaultKind → Bool) : Int := bitmap (FaultKind.list.map test)

/-- FAULT_CLEAR at the fault unit (08 R146). -/
def takeFaultClear (bits : BitVec 16) (s : State) : Answer :=
  if bits.getLsbD 14 || bits.getLsbD 15 then refuse s .refusedRange
  else
    let s1 := refreshAttention (refreshSummary ((kindsNamed bits).foldl clearKind s))
    { state := s1
      status := .ok
      payload := be16 (kindBitmap fun k => bits.getLsbD k.id.toNat && (s1.faults.table.get k).status.isSome) }

/-! ## Reading the table (08 R149, layouts 11 R176) -/

/-- The thirteen bytes of a kind record. -/
def recordBytes (k : FaultKind) (r : FaultRecord) : List Byte :=
  let head := match r.status with
    | some f => be8 1 ++ be8 1 ++ be8 f.severity.code ++ be8 1 ++ be32 f.time.toNat
    | none => be8 0 ++ be8 0 ++ be8 0 ++ be8 0 ++ be32 0
  be8 k.id ++ head ++ be8 r.severity.code ++ be8 (bit r.detectMask) ++ be8 (bit r.reportMask) ++ be8 (bit k.fixed)

/-- The eleven bytes of the overview. -/
def overviewBytes (u : FaultUnit) : List Byte :=
  let pointer := match u.pointer with
    | some p => be8 1 ++ be8 p.kind.id ++ be32 p.time.toNat
    | none => be8 0 ++ be8 0 ++ be32 0
  be8 (bitmap [u.majorPresent, u.minorPresent]) ++
    be16 (kindBitmap fun k => (u.table.get k).status.isSome) ++
    be16 (kindBitmap fun k => (u.table.get k).setAs .major) ++ pointer

/-- FAULT_READ at the fault unit. -/
def takeFaultRead (selector : Byte) (s : State) : Answer :=
  if selector.toNat = 255 then { state := s, status := .ok, payload := overviewBytes s.faults }
  else match FaultKind.byId selector.toNat with
    | some k => { state := s, status := .ok, payload := recordBytes k (s.faults.table.get k) }
    | none => refuse s .refusedRange

/-! ## Counters (09 R155) -/

/-- The mask after a mask action: keep 0, set 1, clear 2. -/
def maskAfter (mask : Bool) (action : Nat) : Bool :=
  if action = 1 then true else if action = 2 then false else mask

/-- A counter after an accepted COUNTER_READ. -/
def Counter.afterRead (c : Counter) (clear : Bool) (action : Nat) : Counter :=
  { value := if clear then 0 else c.value, half := false, full := false, mask := maskAfter c.mask action }

/-- COUNTER_READ at the statistics unit. -/
def takeCounterRead (id clear action : Byte) (s : State) : Answer :=
  match CounterId.byId id.toNat with
  | none => refuse s .refusedRange
  | some k =>
    if 1 < clear.toNat ∨ 2 < action.toNat then refuse s .refusedRange
    else
      let c := s.stats.get k
      { state := s.setStats (s.stats.set k (c.afterRead (decide (clear.toNat = 1)) action.toNat))
        status := .ok
        payload := be8 k.id ++ be8 (if k.wide then 32 else 16) ++ be32 c.value ++
          be8 (bitmap [c.half, c.full, maskAfter c.mask action.toNat]) }

/-! ## Notices (09 R159) -/

/-- The count an EVENT_READ is taken with. -/
def eventCount (n : Nat) : Nat := if n = 0 then 1 else if 4 < n then 4 else n

/-- EVENT_READ at the notice queue. -/
def takeEventRead (count : Byte) (s : State) : Answer :=
  let n := eventCount count.toNat
  let taken := s.notices.records.take n
  let kept := s.notices.records.drop n
  { state := s.setNotices { s.notices with records := kept }.refreshAlert
    status := if n = count.toNat then .ok else .clamped
    payload := be8 kept.length ++ be8 taken.length ++ taken.flatMap Notice.bytes }

/-! ## Samples and acquisition (03 R49 to R53) -/

/-- SAMPLE_READ at the sequencer (03 R53). -/
def takeSampleRead (input format : Byte) (s : State) : Answer :=
  match Input.byNumber input.toNat with
  | none => refuse s .refusedRange
  | some i =>
    match sampleFormat (s.acq.last.results.get i) format.toNat with
    | none => refuse s .refusedRange
    | some value =>
      { state := s.setAcq { s.acq with fresh := s.acq.fresh.set i false }
        status := .ok
        payload := [input, format] ++ be16 value ++ be8 (bit (s.acq.fresh.get i)) }

/-- An accepted ACQ_CONFIG (03 R49, R50). -/
def configureAcq (mode : ScanMode) (count : Byte) (s : State) : Answer :=
  let k := averagingCount count.toNat
  { state := s.setAcq { s.acq with scanMode := mode, k := k, inFlight := none, singleWaiting := false }
    status := if k.toNat = count.toNat then .ok else .clamped
    payload := be8 mode.code ++ be8 k.toNat }

/-- ACQ_CONFIG at the sequencer (03 R49). -/
def takeAcqConfig (mode count : Byte) (s : State) : Answer :=
  if mode.toNat = 0 then configureAcq .continuous count s
  else if mode.toNat = 1 then
    if s.ctl.regime = .off then configureAcq .single count s else refuse s .refusedState
  else refuse s .refusedRange

/-- ACQ_SINGLE at the sequencer (03 R51). -/
def takeAcqSingle (s : State) : Answer :=
  if s.acq.scanMode = .single ∧ s.acq.inFlight = none ∧ s.acq.singleWaiting = false then
    { state := s.setAcq { s.acq with singleWaiting := true }, status := .ok, payload := [] }
  else refuse s .refusedState

end Sys2Proof.Machine
end

