-- ==== Sys2Proof/Machine/Requests.lean ====
section
/-! DEFINITION. Sys2Proof/Machine/Requests.lean: the request handler and the parameter store (11 R169 to R177). Each
request row takes the oldest good frame handed on, when that frame is one of its own (log 1). -/

namespace Sys2Proof.Machine

/-! ## Which row takes a frame -/

/-- The request rows of the opcode table. -/
inductive RequestRow where
  | ident | status | setParam | getParam | mapWrite | mapRead | arm | disarm | release | lock | restart | faultRead
  | faultClear | faultConfig | counterRead | eventRead | sampleRead | acqConfig | acqSingle | unknownKind
  | commandCodeOutOfRange
  deriving DecidableEq, Repr

/-- The row of a COMMAND by its payload (11 R172). A COMMAND without its one code byte falls to the row of the codes
out of range, which answers it MALFORMED (log 18). -/
def commandRow (payload : List Byte) : RequestRow :=
  match payload with
  | [c] =>
    if c = 1 then .arm else if c = 2 then .disarm else if c = 3 then .release else if c = 4 then .lock
    else if c = 5 then .restart else .commandCodeOutOfRange
  | _ => .commandCodeOutOfRange

/-- The row of a frame by its KIND (11 R176). -/
def Frame.row (f : Frame) : RequestRow :=
  match f.kind.toNat with
  | 0x01 => .ident
  | 0x02 => .status
  | 0x03 => .setParam
  | 0x04 => .getParam
  | 0x05 => .mapWrite
  | 0x06 => .mapRead
  | 0x07 => commandRow f.payload
  | 0x08 => .faultRead
  | 0x09 => .faultClear
  | 0x0A => .faultConfig
  | 0x0B => .counterRead
  | 0x0C => .eventRead
  | 0x0D => .sampleRead
  | 0x0E => .acqConfig
  | 0x0F => .acqSingle
  | _ => .unknownKind

/-- A row takes the oldest frame, if it is one of its own. -/
def takeRequest (row : RequestRow) (handle : Frame → State → State) (s : State) : State :=
  match s.flight.frames with
  | [] => s
  | f :: rest => if f.row = row then handle f (s.setFlight { s.flight with frames := rest }) else s

/-- The kinds a broadcast may carry: SET_PARAM and COMMAND (11 R169, test 1). -/
def broadcastAdmitted (f : Frame) : Bool := decide (f.kind = 0x03) || decide (f.kind = 0x07)

/-- A request of a known kind: dropped if it is a broadcast not admitted, MALFORMED if its payload has not the kind's
length, and else taken by its owner and answered (11 R169, R170). -/
def serve {α : Type} (parse : List Byte → Option α) (owner : α → State → Answer) (f : Frame) (s : State) : State :=
  if f.broadcast && !broadcastAdmitted f then s
  else match parse f.payload with
    | none => putReply s f .malformed []
    | some a =>
      let r := owner a s
      putReply r.state f r.status r.payload

/-! ## Payloads by length (11 R176) -/

/-- No payload. -/
def parse0 : List Byte → Option Unit
  | [] => some ()
  | _ => none

/-- One byte. -/
def parse1 : List Byte → Option Byte
  | [a] => some a
  | _ => none

/-- Two bytes. -/
def parse2 : List Byte → Option (Byte × Byte)
  | [a, b] => some (a, b)
  | _ => none

/-- Three bytes. -/
def parse3 : List Byte → Option (Byte × Byte × Byte)
  | [a, b, c] => some (a, b, c)
  | _ => none

/-- Four bytes. -/
def parse4 : List Byte → Option (Byte × Byte × Byte × Byte)
  | [a, b, c, d] => some (a, b, c, d)
  | _ => none

/-- A bitmap of two bytes. -/
def parseBitmap : List Byte → Option (BitVec 16)
  | [hi, lo] => some (hi ++ lo)
  | _ => none

/-- An identifier and a signed value of four bytes. -/
def parseParam : List Byte → Option (Byte × Int)
  | [i, b3, b2, b1, b0] => some (i, int32 b3 b2 b1 b0)
  | _ => none

/-- A row number and nine signed entries of two bytes. -/
def parseRow : List Byte → Option (Byte × Vector Int 9)
  | [r, a1, a0, b1, b0, c1, c0, d1, d0, e1, e0, f1, f0, g1, g0, h1, h0, i1, i0] =>
    some (r, #v[int16 a1 a0, int16 b1 b0, int16 c1 c0, int16 d1 d0, int16 e1 e0, int16 f1 f0, int16 g1 g0,
      int16 h1 h0, int16 i1 i0])
  | _ => none

/-! ## The parameter store (11 R173 to R175) -/

/-- A write as it ends: the state, the status, the value as stored. -/
structure Written where
  state : State
  status : Status
  value : Int
  deriving DecidableEq, Repr

/-- A refused write. -/
def refuseWrite (s : State) (st : Status) : Written := { state := s, status := st, value := 0 }

/-- A numeric write (11 R174, case 5); LEAN_LIMIT also clamps φ_cmd in the same event (05 R99). -/
def writeNum (n : NumParam) (x : Int) (s : State) : Written :=
  let y := s.params.clampNum n x
  let s1 := s.setParams (s.params.setNum n y)
  let s2 := if n = .leanLimit then s1.setTarget { s1.target with phiCmd := clampMag y s1.target.phiCmd } else s1
  { state := s2, status := if y = x then .ok else .clamped, value := y }

/-- A calibration write (11 R174, cases 2, 3 and 6). -/
def writeCal (c : CalParam) (x : Int) (s : State) : Written :=
  if s.ctl.regime ≠ .off then refuseWrite s .refusedState
  else if c.admits x then { state := s.setParams (s.params.setCal c x), status := .ok, value := x }
  else refuseWrite s .refusedRange

/-- An enumerated write (11 R174, cases 3 and 6): the store with the value, where there is one. -/
def writeEnum (store : Option Params) (x : Int) (s : State) : Written :=
  match store with
  | some p => { state := s.setParams p, status := .ok, value := x }
  | none => refuseWrite s .refusedRange

/-- A write of a parameter (11 R174). -/
def writeParam (id : ParamId) (x : Int) (s : State) : Written :=
  match id with
  | .mode => writeEnum ((Mode.ofInt x).map fun m => { s.params with mode := m }) x s
  | .releaseTmo => writeEnum ((TimeoutCode.ofInt x).map fun t => { s.params with releaseTmo := t }) x s
  | .engageTmo => writeEnum ((TimeoutCode.ofInt x).map fun t => { s.params with engageTmo := t }) x s
  | .steerTripAct => writeEnum ((TripAct.ofInt x).map fun t => { s.params with steerTripAct := t }) x s
  | .counterMode => writeEnum ((CounterMode.ofInt x).map fun m => { s.params with counterMode := m }) x s
  | .num n => writeNum n x s
  | .cal c => writeCal c x s
  | .gain g =>
    let r := writeGain g x s
    { state := r.1, status := r.2, value := s.law.clampGain g x }

/-- SET_PARAM at the parameter store (11 R174). -/
def takeSetParam (id : Byte) (x : Int) (s : State) : Answer :=
  match ParamId.ofByte id with
  | none => refuse s .refusedRange
  | some p =>
    let r := writeParam p x s
    { state := r.state, status := r.status, payload := id :: be32 r.value }

/-- The value of a parameter in force (11 R175). -/
def paramValue (s : State) : ParamId → Int
  | .mode => s.params.mode.toInt
  | .releaseTmo => s.params.releaseTmo.toInt
  | .engageTmo => s.params.engageTmo.toInt
  | .steerTripAct => s.params.steerTripAct.toInt
  | .counterMode => s.params.counterMode.toInt
  | .num n => s.params.num n
  | .cal c => s.params.cal c
  | .gain g => s.law.applied.get g

/-- The pending value of a parameter; only a gain has one (11 R175, 06 R116). -/
def paramPending (s : State) : ParamId → Option Int
  | .gain g => s.law.held.get g
  | .mode | .releaseTmo | .engageTmo | .steerTripAct | .counterMode | .num _ | .cal _ => none

/-- GET_PARAM at the parameter store (11 R175). -/
def takeGetParam (id : Byte) (s : State) : Answer :=
  match ParamId.ofByte id with
  | none => refuse s .refusedRange
  | some p =>
    let held := paramPending s p
    { state := s
      status := .ok
      payload := id :: be32 (paramValue s p) ++ be8 (bit held.isSome) ++ be32 (held.getD 0) }

/-! ## IDENT and STATUS (11 R176, R177) -/

/-- The four bytes of IDENT. -/
def identBytes (l : StationLine) : List Byte :=
  be16 Config.partNumber ++ [l.station] ++ be8 l.rateStraps.toNat

/-- Bytes 0 to 6 of STATUS: the regime controller. -/
def statusRegime (s : State) : List Byte :=
  be8 s.ctl.regime.code ++ be8 (causeCode s.ctl.cause) ++
    be8 (bitmap [s.ctl.forced, s.ctl.hold.isSome, decide (s.ctl.hold = some true), decide (s.params.mode = .manual),
      s.est.stand.value]) ++
    be8 (purposeCode s.ctl.purpose) ++ be8 s.ctl.capTimer.code ++ be16 s.ctl.capTimer.left

/-- Bytes 7 to 28: the lean computation. -/
def statusLean (s : State) : List Byte :=
  be8 s.est.meas.code ++ be8 s.est.ring.length ++ be16 s.est.phi ++ be16 s.est.phiRate ++ be16 s.est.barRate ++
    be16 s.wheel.v ++ be16 s.target.phiCmd ++ be16 (s.target.target.getD 0) ++
    be8 (bitmap [s.target.target.isSome, s.target.limited]) ++ be16 s.law.w ++ be16 s.law.dT ++ be16 s.law.dS ++
    be8 (bitmap [s.law.foldback])

/-- A channel's six bytes. -/
def statusChannel (c : DriveChannel) : List Byte :=
  be8 c.state.code ++ be8 (bitmap [c.echo.value, c.overcurrent.value]) ++ be16 c.applied ++ be16 c.current

/-- Bytes 41 to 55: arbiter, clamp, acquisition, faults, notices. -/
def statusTail (s : State) : List Byte :=
  be16 s.arbiter.budget ++
    be8 (bitmap [s.arbiter.cutRun, s.arbiter.supplyLow.value, s.arbiter.overTemp.value]) ++
    be8 s.clamp.solenoid.code ++ be8 s.clamp.stroke.cls.code ++ be8 s.acq.scanMode.code ++ be8 s.acq.k.toNat ++
    be8 (bitmap (s.acq.railQual.map Qual.value).toList) ++ be8 (bitmap [s.faults.majorPresent, s.faults.minorPresent]) ++
    be32 s.notices.now.toNat ++ be8 s.notices.records.length ++ be8 (bitmap [s.notices.alert])

/-- The 56 bytes of the STATUS record. -/
def statusBytes (s : State) : List Byte :=
  statusRegime s ++ statusLean s ++ statusChannel s.tilt ++ statusChannel s.steer ++ statusTail s

/-! ## The request rows -/

/-- IDENT (11 R169). -/
def execIdent (s : State) : Host.Outcome State Fault Refusal :=
  .next (takeRequest .ident
    (serve parse0 fun _ s => { state := s, status := .ok, payload := identBytes s.line }) s)

/-- STATUS (11 R177). -/
def execStatus (s : State) : Host.Outcome State Fault Refusal :=
  .next (takeRequest .status
    (serve parse0 fun _ s => { state := s, status := .ok, payload := statusBytes s }) s)

/-- SET_PARAM (11 R174). -/
def execSetParam (s : State) : Host.Outcome State Fault Refusal :=
  .next (takeRequest .setParam (serve parseParam fun a s => takeSetParam a.1 a.2 s) s)

/-- GET_PARAM (11 R175). -/
def execGetParam (s : State) : Host.Outcome State Fault Refusal :=
  .next (takeRequest .getParam (serve parse1 takeGetParam) s)

/-- MAP_WRITE (05 R86). -/
def execMapWrite (s : State) : Host.Outcome State Fault Refusal :=
  .next (takeRequest .mapWrite (serve parseRow fun a s => takeMapWrite a.1 a.2 s) s)

/-- MAP_READ (05 R88). -/
def execMapRead (s : State) : Host.Outcome State Fault Refusal :=
  .next (takeRequest .mapRead (serve parse1 takeMapRead) s)

/-- ARM (01 R5). -/
def execArm (s : State) : Host.Outcome State Fault Refusal :=
  .next (takeRequest .arm (serve parse1 fun _ s => takeArm s) s)

/-- DISARM (01 R6). -/
def execDisarm (s : State) : Host.Outcome State Fault Refusal :=
  .next (takeRequest .disarm (serve parse1 fun _ s => takeDisarm s) s)

/-- RELEASE (01 R9). -/
def execRelease (s : State) : Host.Outcome State Fault Refusal :=
  .next (takeRequest .release (serve parse1 fun _ s => takeRelease s) s)

/-- LOCK (01 R13). -/
def execLock (s : State) : Host.Outcome State Fault Refusal :=
  .next (takeRequest .lock (serve parse1 fun _ s => takeLock s) s)

/-- A RESTART frame (01 R29, 11 R172): by broadcast the warm reset takes effect on acceptance; otherwise it waits for
the end of the reply. -/
def takeRestart (f : Frame) (s : State) : State :=
  if restartAccepted s then
    if f.broadcast then warmReset s
    else
      let s1 := putReply s f .ok (be8 s.ctl.regime.code)
      s1.setLine { s1.line with restartWaiting := true }
  else putReply s f .refusedState []

/-- RESTART (01 R29). -/
def execRestart (s : State) : Host.Outcome State Fault Refusal :=
  .next (takeRequest .restart takeRestart s)

/-- FAULT_READ (08 R149). -/
def execFaultRead (s : State) : Host.Outcome State Fault Refusal :=
  .next (takeRequest .faultRead (serve parse1 takeFaultRead) s)

/-- FAULT_CLEAR (08 R146). -/
def execFaultClear (s : State) : Host.Outcome State Fault Refusal :=
  .next (takeRequest .faultClear (serve parseBitmap takeFaultClear) s)

/-- FAULT_CONFIG (08 R143). -/
def execFaultConfig (s : State) : Host.Outcome State Fault Refusal :=
  .next (takeRequest .faultConfig (serve parse4 fun a s => takeFaultConfig a.1 a.2.1 a.2.2.1 a.2.2.2 s) s)

/-- COUNTER_READ (09 R155). -/
def execCounterRead (s : State) : Host.Outcome State Fault Refusal :=
  .next (takeRequest .counterRead (serve parse3 fun a s => takeCounterRead a.1 a.2.1 a.2.2 s) s)

/-- EVENT_READ (09 R159). -/
def execEventRead (s : State) : Host.Outcome State Fault Refusal :=
  .next (takeRequest .eventRead (serve parse1 takeEventRead) s)

/-- SAMPLE_READ (03 R53). -/
def execSampleRead (s : State) : Host.Outcome State Fault Refusal :=
  .next (takeRequest .sampleRead (serve parse2 fun a s => takeSampleRead a.1 a.2 s) s)

/-- ACQ_CONFIG (03 R49). -/
def execAcqConfig (s : State) : Host.Outcome State Fault Refusal :=
  .next (takeRequest .acqConfig (serve parse2 fun a s => takeAcqConfig a.1 a.2 s) s)

/-- ACQ_SINGLE (03 R51). -/
def execAcqSingle (s : State) : Host.Outcome State Fault Refusal :=
  .next (takeRequest .acqSingle (serve parse0 fun _ s => takeAcqSingle s) s)

/-- UNKNOWN_KIND (11 R169, tests 1 and 2): a broadcast is dropped, any other frame is answered UNKNOWN_KIND. -/
def execUnknownKind (s : State) : Host.Outcome State Fault Refusal :=
  .next (takeRequest .unknownKind (fun f s => putReply s f .unknownKind []) s)

/-- COMMAND_CODE_OUT_OF_RANGE (11 R172). -/
def execCommandCodeOutOfRange (s : State) : Host.Outcome State Fault Refusal :=
  .next (takeRequest .commandCodeOutOfRange (serve parse1 fun _ s => refuse s .refusedRange) s)

end Sys2Proof.Machine
end

