-- ==== Sys2Proof/Machine/WheelSpeed.lean ====
section
/-! DEFINITION. Sys2Proof/Machine/WheelSpeed.lean: the wheel speed unit (04 R68 to R74). Its time base is its own:
each of its events carries the µs since the one before (log 4). -/

namespace Sys2Proof.Machine

/-- The time since the last accepted pulse after more µs have passed, measured up to 500 000 (04 R69). -/
def timeSince (since : Option Nat) (elapsed : Nat) : Option Nat :=
  since.map fun t => min (t + elapsed) Config.stopTime

/-- The unit after an accepted pulse, by the time since the previous one (04 R71). -/
def WheelUnit.accept (u : WheelUnit) (circ teeth : Int) (since : Option Nat) : WheelUnit :=
  let u1 := { u with sincePulse := some 0, glitches := 0, evalLeft := Config.evaluationStep }
  match since with
  | some t =>
    if t < Config.stopTime then { u1 with period := some t, v := speedFrom circ teeth t }
    else { u1 with period := none }
  | none => { u1 with period := none }

/-- A glitch taken (04 R70): the count, then SPEED_NOISE at the fourth. -/
def takeGlitch (s : State) : State :=
  let s1 := increment s .speedGlitches
  if s.wheel.glitches + 1 < 4 then s1.setWheel { s1.wheel with glitches := s1.wheel.glitches + 1 }
  else detect (s1.setWheel { s1.wheel with glitches := 0 }) .speedNoise

/-- WHEEL_PULSE (04 R70, R71). -/
def execWheelPulse (elapsed : Nat) (s : State) : Host.Outcome State Fault Refusal :=
  let since := timeSince s.wheel.sincePulse elapsed
  let glitch := match since with
    | some t => decide (t < Config.glitchWindow)
    | none => false
  if glitch then
    .next (takeGlitch (s.setWheel { s.wheel with sincePulse := since, evalLeft := s.wheel.evalLeft - elapsed }))
  else
    .next (s.setWheel (s.wheel.accept s.params.wheelCirc s.params.wheelTeeth since))

/-- The speed after an evaluation with the time since the last accepted pulse, the five tests of 04 R73 in order. -/
def WheelUnit.evaluated (u : WheelUnit) (circ teeth : Int) (since : Option Nat) : Int :=
  match since with
  | none => u.v
  | some e =>
    if Config.stopTime ≤ e then 0
    else match u.period with
      | none => u.v
      | some p => if p < e then speedFrom circ teeth e else u.v

/-- The expiry is due, or it met an accepted pulse that was taken before it (04 R69, R74). -/
def WheelUnit.expiryDue (u : WheelUnit) (elapsed : Nat) : Bool :=
  decide (u.evalLeft ≤ elapsed) || (decide (elapsed = 0) && decide (u.sincePulse = some 0))

/-- EVALUATION_TIMER_EXPIRY (04 R73). The next expiry stays on the timer's 1000 µs steps. -/
def execEvaluationTimerExpiry (elapsed : Nat) (s : State) : Host.Outcome State Fault Refusal :=
  if s.wheel.expiryDue elapsed then
    let since := timeSince s.wheel.sincePulse elapsed
    .next (s.setWheel { s.wheel with
      sincePulse := since
      v := s.wheel.evaluated s.params.wheelCirc s.params.wheelTeeth since
      evalLeft := Config.evaluationStep - (elapsed - s.wheel.evalLeft) % Config.evaluationStep })
  else .next s

end Sys2Proof.Machine
end

