-- ==== Sys2Proof/Machine/Dispatch.lean ====
section
/-! DEFINITION. Sys2Proof/Machine/Dispatch.lean: each command to its meaning. -/

namespace Sys2Proof.Machine

/-- The effect of a command on everything but the queue. -/
def exec (i : Instr) (s : State) : Host.Outcome State Fault Refusal :=
  match i with
  | .coldReset stationStraps rateStraps => Sys2Proof.Machine.execColdReset stationStraps rateStraps s
  | .warmReset => Sys2Proof.Machine.execWarmReset s
  | .timestampTick => Sys2Proof.Machine.execTimestampTick s
  | .acquisitionPeriodStart => Sys2Proof.Machine.execAcquisitionPeriodStart s
  | .conversionComplete result stand => Sys2Proof.Machine.execConversionComplete result stand s
  | .snapshotAtEstimator => Sys2Proof.Machine.execSnapshotAtEstimator s
  | .snapshotAtClamp => Sys2Proof.Machine.execSnapshotAtClamp s
  | .snapshotAtChannel ch => Sys2Proof.Machine.execSnapshotAtChannel ch s
  | .snapshotAtArbiter => Sys2Proof.Machine.execSnapshotAtArbiter s
  | .estimate => Sys2Proof.Machine.execEstimate s
  | .classChange => Sys2Proof.Machine.execClassChange s
  | .pullInEnd => Sys2Proof.Machine.execPullInEnd s
  | .lockTimerExpiry => Sys2Proof.Machine.execLockTimerExpiry s
  | .lockTimerExpiryTaken => Sys2Proof.Machine.execLockTimerExpiryTaken s
  | .captureTimerExpiry => Sys2Proof.Machine.execCaptureTimerExpiry s
  | .majorFaultNotification => Sys2Proof.Machine.execMajorFaultNotification s
  | .setCommand => Sys2Proof.Machine.execSetCommand s
  | .applyCommand => Sys2Proof.Machine.execApplyCommand s
  | .regimeDecision => Sys2Proof.Machine.execRegimeDecision s
  | .demandComputation => Sys2Proof.Machine.execDemandComputation s
  | .arbitration => Sys2Proof.Machine.execArbitration s
  | .grant => Sys2Proof.Machine.execGrant s
  | .wheelPulse elapsed => Sys2Proof.Machine.execWheelPulse elapsed s
  | .evaluationTimerExpiry elapsed => Sys2Proof.Machine.execEvaluationTimerExpiry elapsed s
  | .addressCharacter value => Sys2Proof.Machine.execAddressCharacter value s
  | .dataCharacter value => Sys2Proof.Machine.execDataCharacter value s
  | .framingErrorCharacter => Sys2Proof.Machine.execFramingErrorCharacter s
  | .gapTimerExpiry elapsed => Sys2Proof.Machine.execGapTimerExpiry elapsed s
  | .turnaroundExpiry elapsed => Sys2Proof.Machine.execTurnaroundExpiry elapsed s
  | .readbackCharacter c => Sys2Proof.Machine.execReadbackCharacter c s
  | .ident => Sys2Proof.Machine.execIdent s
  | .status => Sys2Proof.Machine.execStatus s
  | .setParam => Sys2Proof.Machine.execSetParam s
  | .getParam => Sys2Proof.Machine.execGetParam s
  | .mapWrite => Sys2Proof.Machine.execMapWrite s
  | .mapRead => Sys2Proof.Machine.execMapRead s
  | .arm => Sys2Proof.Machine.execArm s
  | .disarm => Sys2Proof.Machine.execDisarm s
  | .release => Sys2Proof.Machine.execRelease s
  | .lock => Sys2Proof.Machine.execLock s
  | .restart => Sys2Proof.Machine.execRestart s
  | .faultRead => Sys2Proof.Machine.execFaultRead s
  | .faultClear => Sys2Proof.Machine.execFaultClear s
  | .faultConfig => Sys2Proof.Machine.execFaultConfig s
  | .counterRead => Sys2Proof.Machine.execCounterRead s
  | .eventRead => Sys2Proof.Machine.execEventRead s
  | .sampleRead => Sys2Proof.Machine.execSampleRead s
  | .acqConfig => Sys2Proof.Machine.execAcqConfig s
  | .acqSingle => Sys2Proof.Machine.execAcqSingle s
  | .unknownKind => Sys2Proof.Machine.execUnknownKind s
  | .commandCodeOutOfRange => Sys2Proof.Machine.execCommandCodeOutOfRange s

end Sys2Proof.Machine
end

