-- ==== Sys2Proof/Safety.lean ====
section
/-! DEFINITION. Sys2Proof/Safety.lean: the laws that the spec says the part keeps, as predicates of the state. Each is
meant to hold at reset and to be kept by every step; ranges that another law needs stand in a law of their own. -/

namespace Sys2Proof.Machine

/-! ## Regime and clamp -/

/-- The clamp solenoid is energized only in RELEASING, ACTIVE and CAPTURING (02 R33). -/
def State.SolenoidLaw (s : State) : Prop :=
  s.clamp.solenoid ≠ .deEnergized →
    s.ctl.regime = .releasing ∨ s.ctl.regime = .active ∨ s.ctl.regime = .capturing

/-- What the regime controller holds besides the regime is present exactly where 01 R1 says, and a capture is forced
exactly when its cause is FAULT (R15, R22). -/
structure RegimeCtl.Consistent (c : RegimeCtl) : Prop where
  cause : c.cause.isSome = true ↔ c.regime = .capturing
  forcedWhere : c.forced = true → c.regime = .capturing ∨ c.regime = .engaging
  forcedCause : c.regime = .capturing → (c.forced = true ↔ c.cause = some .fault)
  hold : c.hold.isSome = true ↔ c.regime = .engaging ∨ c.regime = .failed
  release : c.purpose = some .release ↔ c.regime = .releasing
  engage : c.purpose = some .engage ↔ c.regime = .engaging
  captureTimer : c.capTimer ≠ .stopped ↔ c.regime = .capturing

/-- The regime controller is consistent (01 R1). -/
def State.RegimeLaw (s : State) : Prop := s.ctl.Consistent

/-- A part in SINGLE mode stands in OFF, and a single request waits only in SINGLE mode (03 R44, R49). -/
def State.ScanLaw (s : State) : Prop :=
  (s.acq.scanMode = .single → s.ctl.regime = .off) ∧ (s.acq.singleWaiting = true → s.acq.scanMode = .single)

/-! ## Drive channels -/

/-- A channel that is not TRIPPED is ON exactly where it is enabled, and applies 0 unless it is ON (07 R119, R120). -/
def DriveChannel.Follows (c : DriveChannel) (enabled : Bool) : Prop :=
  (c.state = .on → enabled = true) ∧ (c.state = .off → enabled = false) ∧ (c.state ≠ .on → c.applied = 0)

/-- Both channels follow the regime and the hold flag (07 R119, R120). -/
def State.ChannelLaw (s : State) : Prop :=
  s.tilt.Follows (tiltEnabled s.ctl.regime s.ctl.hold) ∧ s.steer.Follows (steerEnabled s.ctl.regime)

/-- The fixed kinds are MAJOR and never masked from detection (08 R144). -/
def FaultTable.FixedKinds (t : FaultTable) : Prop :=
  ∀ k : FaultKind, k.fixed = true → (t.get k).severity = .major ∧ (t.get k).detectMask = false

/-- A drive channel is TRIPPED only while its trip fault status is set (07 R128). -/
structure State.TripLaw (s : State) : Prop where
  fixed : s.faults.table.FixedKinds
  tilt : s.tilt.state = .tripped → s.faults.table.tiltDriveTrip.status.isSome = true
  steer : s.steer.state = .tripped → s.faults.table.steerDriveTrip.status.isSome = true

/-! ## Faults and notices -/

/-- The summary is derived from the records (08 R141), and a valid first-fault pointer names a kind whose status is
SET, with its time (R142). -/
structure State.FaultLaw (s : State) : Prop where
  major : s.faults.majorPresent = s.faults.table.records.any (FaultRecord.setAs .major)
  minor : s.faults.minorPresent = s.faults.table.records.any (FaultRecord.setAs .minor)
  pointer : ∀ p, s.faults.pointer = some p →
    ∃ f, (s.faults.table.get p.kind).status = some f ∧ f.time = p.time

/-- At most 16 records are held, none with a dropped count above 255 (09 R158); ALERT is asserted exactly while a
record is held or some status is SET with its report mask clear (09 R160, 08 R141). -/
structure State.NoticeLaw (s : State) : Prop where
  size : s.notices.records.length ≤ 16
  dropped : ∀ n ∈ s.notices.records, n.dropped ≤ 255
  attention : s.notices.attention = s.faults.table.records.any FaultRecord.wantsAttention
  alert : s.notices.alert = true ↔ s.notices.records ≠ [] ∨ s.notices.attention = true

/-! ## Parameters and gains -/

/-- Every numeric parameter is within its range (11 R173), the cross-clamped pairs keep their margins (R174), and
every calibration parameter holds a value it admits. -/
structure State.ParamLaw (s : State) : Prop where
  numeric : ∀ n : NumParam, n.range.1 ≤ s.params.num n ∧ s.params.num n ≤ n.range.2
  speeds : s.params.vCapture + 50 ≤ s.params.vRelease
  strokes : s.params.strokeClosedMax + 256 ≤ s.params.strokeOpenMin
  calibration : ∀ c : CalParam, c.admits (s.params.cal c) = true

/-- Every applied and every pending gain is within its range, and the effective next blend speeds lie at least 100
apart (06 R102, R114). -/
structure State.GainLaw (s : State) : Prop where
  applied : ∀ g : Gain, g.range.1 ≤ s.law.applied.get g ∧ s.law.applied.get g ≤ g.range.2
  held : ∀ (g : Gain) (x : Int), s.law.held.get g = some x → g.range.1 ≤ x ∧ x ≤ g.range.2
  apart : s.law.nextValue .vbLo + 100 ≤ s.law.nextValue .vbHi

/-! ## The lean computation -/

/-- |φ_cmd| never exceeds LEAN_LIMIT (05 R100). -/
def State.CommandLaw (s : State) : Prop :=
  -s.params.leanLimit ≤ s.target.phiCmd ∧ s.target.phiCmd ≤ s.params.leanLimit

/-- The speed is within 0 to 2500, and 0 once 500 000 µs without an accepted pulse have been recorded (04 R73); the
other pieces of the unit are within the ranges of 04 R68. -/
structure State.WheelLaw (s : State) : Prop where
  range : 0 ≤ s.wheel.v ∧ s.wheel.v ≤ 2500
  stopped : s.wheel.sincePulse = some 500000 → s.wheel.v = 0
  since : ∀ t, s.wheel.sincePulse = some t → t ≤ 500000
  period : ∀ t, s.wheel.period = some t → 200 ≤ t ∧ t ≤ 499999
  glitches : s.wheel.glitches ≤ 3

/-- The ring holds at most 9 records, the rates are nonzero only when it holds 9, and it is empty while the
measurement is LOST (05 R79, R81). -/
structure State.RingLaw (s : State) : Prop where
  size : s.est.ring.length ≤ 9
  rates : s.est.phiRate ≠ 0 ∨ s.est.barRate ≠ 0 → s.est.ring.length = 9
  lost : s.est.meas = .lost → s.est.ring = []

/-- x lies within ±l. -/
def Within (l x : Int) : Prop := -l ≤ x ∧ x ≤ l

/-- Every demand on its way and every demand applied lies within the effective limit it came with (07 R133, 06 R107,
R109). -/
structure State.LimitLaw (s : State) : Prop where
  demands : ∀ d ∈ s.flight.demands, Within d.limT d.dT ∧ Within d.limS d.dS
  grants : ∀ g ∈ s.flight.grants, Within g.limT g.gT ∧ Within g.limS g.gS
  tilt : Within s.tilt.heldLimit s.tilt.applied
  steer : Within s.steer.heldLimit s.steer.applied

/-! ## The line -/

/-- The receive side holds bytes only in ADDRESSED, a reply is held exactly while the transmit side is not IDLE, and a
RESTART waits only for a reply that has not ended (10 R163, R165, 01 R29). -/
structure State.LineLaw (s : State) : Prop where
  buffer : s.line.rx ≠ .addressed → s.line.buffer = []
  reply : s.line.reply.isSome = true ↔ s.line.tx ≠ .idle
  waiting : s.line.restartWaiting = true → s.line.tx ≠ .idle

end Sys2Proof.Machine
end

