-- ==== Sys2Proof/Certificates/Slice0/Obligations.lean ====
section
/-! DEFINITION. Sys2Proof/Certificates/Slice0/Obligations.lean: the statements for the provers. A statement about a
command gives the state it answers with; a block that the answer does not name is the block of the state before. -/

namespace Sys2Proof.Machine

/-- The line once the request of a frame has been answered (10 R165, 11 R170): a broadcast frame leaves it as it was,
any other has its reply in the reply buffer. -/
def StationLine.answered (l : StationLine) (f : Frame) (st : Status) (payload : List Byte) : StationLine :=
  if f.broadcast then l
  else { l with
    tx := .turnaround
    reply := some { kind := f.kind + 0x80#8, tag := f.tag, status := st, payload := payload } }

/-- The oldest good frame handed on is `f`, with this KIND and this payload, and `rest` are those behind it. -/
def State.asked (s : State) (f : Frame) (rest : List Frame) (kind : Byte) (payload : List Byte) : Prop :=
  s.flight.frames = f :: rest ∧ f.kind = kind ∧ f.payload = payload

/-- The state with the oldest frame taken and its request answered; an owner's effect comes on top of it. -/
def State.replied (s : State) (f : Frame) (rest : List Frame) (st : Status) (payload : List Byte) : State :=
  { s with line := s.line.answered f st payload, flight := { s.flight with frames := rest } }

/-- The request kinds but COMMAND's five codes, with the byte and the payload length of 11 R176. -/
def requestTable : List (Instr × Byte × Nat) :=
  [(.ident, 0x01, 0), (.status, 0x02, 0), (.setParam, 0x03, 5), (.getParam, 0x04, 1), (.mapWrite, 0x05, 19),
    (.mapRead, 0x06, 1), (.commandCodeOutOfRange, 0x07, 1), (.faultRead, 0x08, 1), (.faultClear, 0x09, 2),
    (.faultConfig, 0x0A, 4), (.counterRead, 0x0B, 3), (.eventRead, 0x0C, 1), (.sampleRead, 0x0D, 2),
    (.acqConfig, 0x0E, 2), (.acqSingle, 0x0F, 0)]

/-- COMMAND's five codes (11 R172). -/
def commandTable : List (Instr × Byte) := [(.arm, 1), (.disarm, 2), (.release, 3), (.lock, 4), (.restart, 5)]

/-- The fault kinds by their ids 0 to 13 (08 R137). -/
def kindsById : List FaultKind :=
  [.leanDisagree, .leanRange, .barRange, .clampPosition, .releaseTimeout, .engageTimeout, .tiltDriveTrip,
    .steerDriveTrip, .leanExcess, .speedNoise, .supplyLow, .overtemp, .staleInput, .captureSlow]

/-- The six fixed kinds (08 R144). -/
def fixedKinds : List FaultKind :=
  [.leanDisagree, .leanRange, .clampPosition, .engageTimeout, .tiltDriveTrip, .staleInput]

/-- The counters by their ids 0 to 15 (09 R152). -/
def countersById : List CounterId :=
  [.releases, .engagements, .captureAborts, .releaseTimeouts, .targetClamps, .rateLimited, .disagreeSamples,
    .missedPeriods, .budgetCutPeriods, .speedGlitches, .framesGood, .framesBad, .framesOther, .replyCollisions,
    .repliesDropped, .faultsSet]

/-- The gains by identifier (11 R173). -/
def gainIds : List (Byte × Gain) :=
  [(0x10, .kp), (0x11, .kd), (0x12, .gs), (0x13, .cd), (0x14, .vbLo), (0x15, .vbHi), (0x16, .wMax)]

/-- The parameters but the gains, by identifier, with the value in force (11 R173). -/
def Params.byId (p : Params) : List (Byte × Int) :=
  [(0x01, p.mode.toInt), (0x02, p.vRelease), (0x03, p.vCapture), (0x04, p.leanLimit), (0x05, p.rLean),
    (0x06, p.rCapture), (0x07, p.capWindow), (0x08, p.capRate), (0x09, p.capTime), (0x0A, p.tol),
    (0x0B, p.releaseTmo.toInt), (0x0C, p.engageTmo.toInt), (0x0D, p.strokeClosedMax), (0x0E, p.strokeOpenMin),
    (0x20, p.ilimT), (0x21, p.ilimS), (0x22, p.supplyBudget), (0x23, p.prioT), (0x24, p.prioS),
    (0x25, p.steerTripAct.toInt), (0x26, p.vsupMin), (0x27, p.tempMax), (0x30, p.wheelCirc), (0x31, p.wheelTeeth),
    (0x32, p.counterMode.toInt), (0x40, p.zA), (0x41, p.sA), (0x42, p.zB), (0x43, p.sB), (0x44, p.zS), (0x45, p.sS)]

/-- How values travel: the high byte first in two's complement, flags from bit 0 up, and every code of 11 R169, R173 and
R176. -/
def LayoutCodes : Prop :=
  (∀ x : Int, be8 x = [BitVec.ofInt 8 x] ∧ be16 x = be8 (x / 256) ++ be8 x ∧ be32 x = be16 (x / 65536) ++ be16 x) ∧
  (∀ (b : Bool) (rest : List Bool), bitmap [] = 0 ∧ bitmap (b :: rest) = bit b + 2 * bitmap rest) ∧
  bit false = 0 ∧ bit true = 1 ∧
  [Regime.off, .locked, .releasing, .active, .capturing, .engaging, .failed].map Regime.code = [0, 1, 2, 3, 4, 5, 6] ∧
  [none, some .speed, some .request, some .stand, some .fault].map causeCode = [0, 1, 2, 3, 4] ∧
  [NoticeCause.request, .speed, .stand, .fault, .timeout, .clamp, .reset].map NoticeCause.code =
    [0, 1, 2, 3, 4, 5, 6] ∧
  [MeasState.valid, .single, .held, .lost].map MeasState.code = [0, 1, 2, 3] ∧
  [ChannelState.off, .on, .tripped].map ChannelState.code = [0, 1, 2] ∧
  [Severity.minor, .major].map Severity.code = [0, 1] ∧
  [none, some .release, some .engage].map purposeCode = [0, 1, 2] ∧
  (∀ n : Nat, [CaptureTimer.stopped, .running n, .expired].map CaptureTimer.code = [0, 1, 2] ∧
    [CaptureTimer.stopped, .running n, .expired].map CaptureTimer.left = [0, (n : Int), 0] ∧
    [Solenoid.deEnergized, .pullIn n, .holding].map Solenoid.code = [0, 1, 2]) ∧
  [StrokeClass.unknown, .closed, .moving, .opened].map StrokeClass.code = [0, 1, 2, 3] ∧
  [ScanMode.continuous, .single].map ScanMode.code = [0, 1] ∧
  [AvgCount.one, .two, .four].map AvgCount.toNat = [1, 2, 4] ∧
  [Mode.auto, .manual].map Mode.toInt = [0, 1] ∧
  [TimeoutCode.code0, .code1, .code2, .code3, .code4, .code5].map TimeoutCode.toInt = [0, 1, 2, 3, 4, 5] ∧
  [TripAct.disable, .report].map TripAct.toInt = [0, 1] ∧
  [CounterMode.wrap, .saturate].map CounterMode.toInt = [0, 1] ∧
  kindsById.map FaultKind.id = [0, 1, 2, 3, 4, 5, 6, 7, 8, 9, 10, 11, 12, 13] ∧
  countersById.map CounterId.id = [0, 1, 2, 3, 4, 5, 6, 7, 8, 9, 10, 11, 12, 13, 14, 15] ∧
  [Status.ok, .clamped, .pending, .refusedState, .refusedRange, .refusedFault, .unknownKind, .malformed].map
    Status.code = [0, 1, 2, 3, 4, 5, 6, 7]

/-- The state with the oldest frame taken, and nothing else done: a broadcast request dropped (11 R171). -/
def State.dropped (s : State) (rest : List Frame) : State := { s with flight := { s.flight with frames := rest } }

/-- What is left to do when a reply has ended or been abandoned: the warm reset of a RESTART that waited for it
(01 R29). -/
def State.replyOver (s : State) : State := if s.line.restartWaiting then warmReset s else s

/-- The state once a lost reply has been dropped and counted (10 R166, R167). -/
def State.replyLost (s : State) (id : CounterId) : State :=
  { increment s id with line := { s.line with tx := .idle, reply := none, rx := .idle, buffer := [] } }

/-- The receive side takes an address character in IDLE or SKIPPING (10 R163). -/
def State.addressed (s : State) (a : Byte) : State :=
  if a = s.line.station ∨ a = 31 then
    { s with line := { s.line with rx := .addressed, buffer := [], toBroadcast := decide (a = 31) } }
  else { increment s .framesOther with line := { s.line with rx := .skipping, buffer := [] } }

/-- The state with the estimate taken out of its list and kept as the latest (01 R2). -/
def State.tookEstimate (s : State) (e : Estimate) (rest : List Estimate) : State :=
  { s with
    ctl := { s.ctl with latest := { meas := e.meas, phi := e.phi, ringFull := e.ringFull, stand := e.stand } }
    flight := { s.flight with estimates := rest } }

/-- The state with the period's decision published behind what was sent before (01 R2). -/
def State.decided (s : State) (e : Estimate) : State :=
  { s with flight := { s.flight with
      targetMsgs := s.flight.targetMsgs ++
        [.decision { regime := s.ctl.regime, hold := s.ctl.hold, est := e, applies := s.flight.appliesSent }] } }

/-- A decision of the following kind (05 R95). -/
def Decision.follows (d : Decision) : Bool :=
  decide (d.regime = .off) || decide (d.regime = .locked) ||
    ((decide (d.regime = .engaging) || decide (d.regime = .failed)) && decide (d.hold ≠ some true))

/-- A decision of the holding kind (05 R95). -/
def Decision.holds (d : Decision) : Bool :=
  decide (d.regime = .releasing) || decide (d.regime = .capturing) ||
    ((decide (d.regime = .engaging) || decide (d.regime = .failed)) && decide (d.hold = some true))

/-- φ_cmd moved toward a target by a rate (05 R96). -/
def moved (target rate cmd : Int) : Int :=
  if mag (target - cmd) ≤ rate then target else if cmd < target then cmd + rate else cmd - rate

/-- A status named by a FAULT_CLEAR is cleared by it (08 R146, R147). -/
def State.clears (s : State) (bits : BitVec 16) (k : FaultKind) : Bool :=
  bits.getLsbD k.id.toNat && (s.faults.table.get k).status.isSome &&
    ((decide (k ≠ .tiltDriveTrip) && decide (k ≠ .steerDriveTrip)) || decide (s.ctl.regime = .off) ||
      decide (s.ctl.regime = .locked))

/-- Every law of Safety.lean. -/
def State.Lawful (s : State) : Prop :=
  s.SolenoidLaw ∧ s.RegimeLaw ∧ s.ScanLaw ∧ s.ChannelLaw ∧ s.TripLaw ∧ s.FaultLaw ∧ s.NoticeLaw ∧ s.ParamLaw ∧
    s.GainLaw ∧ s.CommandLaw ∧ s.WheelLaw ∧ s.RingLaw ∧ s.LimitLaw ∧ s.LineLaw

end Sys2Proof.Machine

section

open Sys2Proof Sys2Proof.Machine

/-! ## The step -/

/-- A step takes the command at the front of the queue and answers what it answers with the queue's rest; on an empty
queue the part idles (the model's choice, log 2). -/
def Obligations.StepRunsFrontCommand : Prop :=
  (∀ (c : Instr) (rest : List Instr) (s : State), s.pending = c :: rest → step s = exec c { s with pending := rest }) ∧
    ∀ s : State, s.pending = [] → step s = .next s

/-- Every command answers a next state (log 25) and leaves the queue alone. The straps hold until a cold reset, and the
timestamp count moves by a tick or a cold reset only. -/
def Obligations.EveryCommandAnswers : Prop :=
  ∀ (c : Instr) (s : State), ∃ t, exec c s = .next t ∧ t.pending = s.pending ∧
    ((∀ a b, c ≠ .coldReset a b) →
      t.line.stationStraps = s.line.stationStraps ∧ t.line.rateStraps = s.line.rateStraps ∧
        (c ≠ .timestampTick → t.notices.now = s.notices.now))

/-- A command whose message has not been sent, a demand computation that waits for an apply command, a WARM_RESET that is
not the end of a RESTART's reply, and a request row with a frame of another row in front change nothing (the model's
choice, logs 1, 7 and 16). -/
def Obligations.AbsentInputChangesNothing : Prop :=
  ∀ s : State,
    (s.flight.snapEst = [] → exec .snapshotAtEstimator s = .next s) ∧
    (s.flight.snapClamp = [] → exec .snapshotAtClamp s = .next s) ∧
    (s.flight.snapTilt = [] → exec (.snapshotAtChannel .tilt) s = .next s) ∧
    (s.flight.snapSteer = [] → exec (.snapshotAtChannel .steer) s = .next s) ∧
    (s.flight.snapArb = [] → exec .snapshotAtArbiter s = .next s) ∧
    (s.flight.estimates = [] → exec .estimate s = .next s) ∧
    ((∀ c rest, s.flight.clampEvents ≠ .classChange c :: rest) → exec .classChange s = .next s) ∧
    ((∀ n p rest, s.flight.clampEvents ≠ .lockExpiry n p :: rest) → exec .lockTimerExpiryTaken s = .next s) ∧
    (s.flight.captureExpiries = [] → exec .captureTimerExpiry s = .next s) ∧
    (s.flight.notifications = [] → exec .majorFaultNotification s = .next s) ∧
    ((∀ x rest, s.flight.targetMsgs ≠ .set x :: rest) → exec .setCommand s = .next s) ∧
    ((∀ d rest, s.flight.targetMsgs ≠ .decision d :: rest) → exec .regimeDecision s = .next s) ∧
    (s.flight.appliesSent ≤ s.flight.appliesTaken → exec .applyCommand s = .next s) ∧
    (s.flight.leanCommands = [] → exec .demandComputation s = .next s) ∧
    (∀ c rest, s.flight.leanCommands = c :: rest → s.flight.appliesTaken < c.decision.applies →
      exec .demandComputation s = .next s) ∧
    (s.flight.demands = [] → exec .arbitration s = .next s) ∧
    (s.flight.grants = [] → exec .grant s = .next s) ∧
    (s.line.restartWaiting = false → exec .warmReset s = .next s) ∧
    (s.line.tx = .turnaround → exec .warmReset s = .next s) ∧
    (∀ (n : Nat) (r : Reply), s.line.tx = .sending n → s.line.reply = some r → n + 1 < r.chars.length →
      exec .warmReset s = .next s) ∧
    (s.flight.frames = [] → ∀ p ∈ requestTable, exec p.1 s = .next s) ∧
    (s.flight.frames = [] → exec .unknownKind s = .next s ∧ exec .arm s = .next s ∧ exec .disarm s = .next s ∧
      exec .release s = .next s ∧ exec .lock s = .next s ∧ exec .restart s = .next s) ∧
    ∀ (f : Frame) (rest : List Frame), s.flight.frames = f :: rest →
      (∀ p ∈ requestTable, f.kind ≠ p.2.1 → exec p.1 s = .next s) ∧
      (1 ≤ f.kind.toNat → f.kind.toNat ≤ 15 → exec .unknownKind s = .next s) ∧
      (∀ p ∈ commandTable, f.kind ≠ 0x07 ∨ f.payload ≠ [p.2] → exec p.1 s = .next s) ∧
      ∀ p ∈ commandTable, f.payload = [p.2] → exec .commandCodeOutOfRange s = .next s

/-! ## Resets and the millisecond -/

/-- COLD_RESET sets every block to its defaults with the straps as sampled. What the spec does not name (no period
awaiting settlement, the rates of STATUS, the rail values seen before, the broadcast mark of no frame, nothing under
way) is the model's: logs 9, 10, 11, 14 and 15. -/
def Obligations.ColdResetSetsEveryBlock : Prop :=
  ∀ (s : State) (station rate : Nat), station ≤ 7 → rate ≤ 3 →
    ∃ t, exec (.coldReset station rate) s = .next t ∧
      t.ctl =
        { regime := .off, cause := none, forced := false, hold := none, purpose := none, capTimer := .stopped,
          capRun := 0, latest := { meas := .lost, phi := 0, ringFull := false, stand := false } } ∧
      t.clamp =
        { solenoid := .deEnergized, stroke := { cls := .unknown, candidate := none, run := 0 }, timer := .stopped,
          run := 0, form1 := false, form2 := false, form3 := false } ∧
      t.acq =
        { k := .two, scanMode := .continuous, periodKind := .continuous, inFlight := none, singleWaiting := false,
          published := false, last := { results := .all 0, rail := .all false, stand := .up }, fresh := .all false,
          railQual := .all { value := false, run := 0 }, missed := 0, awaitingFirst := true } ∧
      t.wheel = { sincePulse := none, period := none, glitches := 0, v := 0, evalLeft := 1000 } ∧
      t.est =
        { meas := .lost, phi := 0, ring := [], phiRate := 0, barRate := 0, disagree := { value := false, run := 0 },
          stand := { value := false, run := 0 }, excess := { value := false, run := 0 }, railA := false,
          railB := false, railBar := false } ∧
      t.target = { map := Vector.replicate 8 (Vector.replicate 9 0), target := none, phiCmd := 0, limited := false } ∧
      t.law =
        { applied := { kp := 40, kd := 12, gs := 48, cd := 8, vbLo := 300, vbHi := 900, wMax := 192 },
          held := .all none, w := 0, dT := 0, dS := 0, foldback := false } ∧
      t.tilt =
        { state := .off, applied := 0, echoRef := 0, heldLimit := 1500, current := 0,
          echo := { value := false, run := 0 }, overcurrent := { value := false, run := 0 } } ∧
      t.steer =
        { state := .off, applied := 0, echoRef := 0, heldLimit := 500, current := 0,
          echo := { value := false, run := 0 }, overcurrent := { value := false, run := 0 } } ∧
      t.arbiter =
        { supplyLow := { value := false, run := 0 }, overTemp := { value := false, run := 0 }, budget := 2500,
          cutRun := false } ∧
      (∀ k : FaultKind, t.faults.table.get k =
        { status := none, detectMask := false, reportMask := false
          severity := if k ∈ [.barRange, .releaseTimeout, .steerDriveTrip, .speedNoise, .supplyLow, .overtemp,
            .captureSlow] then .minor else .major }) ∧
      t.faults.pointer = none ∧ t.faults.majorPresent = false ∧ t.faults.minorPresent = false ∧
      (∀ id : CounterId, t.stats.get id = { value := 0, half := false, full := false, mask := false }) ∧
      t.notices = { records := [], now := 0, attention := false, alert := false } ∧
      t.params =
        { mode := .auto, vRelease := 250, vCapture := 150, leanLimit := 3000, rLean := 20, rCapture := 10,
          capWindow := 100, capRate := 400, capTime := 3000, tol := 150, releaseTmo := .code2, engageTmo := .code3,
          strokeClosedMax := 800, strokeOpenMin := 3200, ilimT := 1500, ilimS := 500, supplyBudget := 2500,
          prioT := 6, prioS := 4, steerTripAct := .disable, vsupMin := 38000, tempMax := 1100, wheelCirc := 1400,
          wheelTeeth := 20, counterMode := .saturate, zA := 2048, zB := 2048, zS := 2048, sA := 400, sB := -400,
          sS := 400 } ∧
      t.line =
        { stationStraps := BitVec.ofNat 3 station, rateStraps := BitVec.ofNat 2 rate, rx := .idle, buffer := [],
          toBroadcast := false, tx := .idle, reply := none, restartWaiting := false } ∧
      t.line.station.toNat = station + 1 ∧
      t.flight = Flight.start ∧ t.pending = s.pending

/-- The warm reset, from every state: what it sets, what it keeps, and the REGIME notice. A WARM_RESET at the end of a
RESTART's reply (log 7) is it, and so is a broadcast RESTART that is accepted. That class changes, expiries and
notifications stay under way and nothing else does is the model's reading (log 8), and so are the values that the spec
does not name: no period awaiting settlement, the rates of STATUS, the rail values seen before, the broadcast mark
(logs 10, 11, 14 and 15). -/
def Obligations.WarmResetKeepsTheConfiguration : Prop :=
  ∀ s : State,
    ∃ t, warmReset s = t ∧
      (s.line.restartWaiting = true →
        s.line.tx = .idle ∨
          (∃ n, s.line.tx = .sending n ∧ ∀ r, s.line.reply = some r → r.chars.length ≤ n + 1) →
        exec .warmReset s = .next t) ∧
      (∀ (f : Frame) (rest : List Frame), s.asked f rest 0x07 [5] → f.broadcast = true →
        s.ctl.regime = .off ∨ s.ctl.regime = .locked ∨ s.ctl.regime = .failed → exec .restart s = .next t) ∧
      t.ctl =
        { regime := .off, cause := none, forced := false, hold := none, purpose := none, capTimer := .stopped,
          capRun := s.ctl.capRun, latest := { meas := .lost, phi := 0, ringFull := false, stand := false } } ∧
      t.clamp =
        { solenoid := .deEnergized, stroke := { cls := .unknown, candidate := none, run := 0 }, timer := .stopped,
          run := 0, form1 := false, form2 := false, form3 := false } ∧
      t.acq =
        { k := s.acq.k, scanMode := .continuous, periodKind := .continuous, inFlight := none, singleWaiting := false,
          published := false, last := { results := .all 0, rail := .all false, stand := .up }, fresh := .all false,
          railQual := .all { value := false, run := 0 }, missed := 0, awaitingFirst := true } ∧
      t.wheel = { sincePulse := none, period := none, glitches := 0, v := 0, evalLeft := 1000 } ∧
      t.est =
        { meas := .lost, phi := 0, ring := [], phiRate := 0, barRate := 0, disagree := { value := false, run := 0 },
          stand := { value := false, run := 0 }, excess := { value := false, run := 0 }, railA := false,
          railB := false, railBar := false } ∧
      t.target = { map := s.target.map, target := none, phiCmd := 0, limited := false } ∧
      t.law = { applied := s.law.applied, held := s.law.held, w := 0, dT := 0, dS := 0, foldback := false } ∧
      t.tilt =
        { state := if s.tilt.state = .tripped then .tripped else .off, applied := 0, echoRef := 0,
          heldLimit := s.params.ilimT, current := 0, echo := { value := false, run := 0 },
          overcurrent := { value := false, run := 0 } } ∧
      t.steer =
        { state := if s.steer.state = .tripped then .tripped else .off, applied := 0, echoRef := 0,
          heldLimit := s.params.ilimS, current := 0, echo := { value := false, run := 0 },
          overcurrent := { value := false, run := 0 } } ∧
      t.arbiter =
        { supplyLow := { value := false, run := 0 }, overTemp := { value := false, run := 0 },
          budget := s.params.supplyBudget, cutRun := false } ∧
      t.faults = s.faults ∧ t.stats = s.stats ∧ t.params = s.params ∧
      t.notices.records =
        (if s.ctl.regime = .off then []
          else [{ content := .regime s.ctl.regime .off .reset, time := s.notices.now, dropped := 0 }]) ∧
      t.notices.now = s.notices.now ∧ t.notices.attention = s.notices.attention ∧
      (t.notices.alert = true ↔ s.ctl.regime ≠ .off ∨ s.notices.attention = true) ∧
      t.line =
        { stationStraps := s.line.stationStraps, rateStraps := s.line.rateStraps, rx := .idle, buffer := [],
          toBroadcast := false, tx := .idle, reply := none, restartWaiting := false } ∧
      t.flight =
        { Flight.start with
          clampEvents := s.flight.clampEvents, captureExpiries := s.flight.captureExpiries,
          notifications := s.flight.notifications } ∧
      t.pending = s.pending

/-- TIMESTAMP_TICK: the count goes up, wrapping after 2³²−1, and the timers that count by the millisecond go down; a
capture timer that runs out sends its expiry with its run number (the one clock for all of them is the model's,
log 3). -/
def Obligations.TimestampTickCounts : Prop :=
  ∀ s : State,
    exec .timestampTick s = .next { s with
      notices := { s.notices with now := s.notices.now + 1 }
      clamp := { s.clamp with
        solenoid := (match s.clamp.solenoid with
          | .pullIn n => .pullIn (n - 1)
          | x => x)
        timer := (match s.clamp.timer with
          | .running p d n => .running p d (n - 1)
          | x => x) }
      ctl := { s.ctl with
        capTimer := (match s.ctl.capTimer with
          | .running n => .running (n - 1)
          | x => x) }
      flight := { s.flight with
        captureExpiries :=
          s.flight.captureExpiries ++ (if s.ctl.capTimer = .running 1 then [s.ctl.capRun] else []) } }

/-! ## Acquisition -/

/-- ACQUISITION_PERIOD_START settles the period that ended (but for the first after a reset, log 11), counts a missed
one, reports the third in a row, and starts the new one. -/
def Obligations.PeriodStartSettlesAndStarts : Prop :=
  ∀ s : State,
    let missed := !s.acq.awaitingFirst && decide (s.acq.periodKind = .continuous) && !s.acq.published
    let counted := if missed then increment s .missedPeriods else s
    let reported := if missed && decide (s.acq.missed = 2) then detect counted .staleInput else counted
    exec .acquisitionPeriodStart s = .next { reported with
      acq := { s.acq with
        published := false
        periodKind := s.acq.scanMode
        awaitingFirst := false
        missed := if missed && decide (s.acq.missed < 3) then s.acq.missed + 1 else s.acq.missed
        inFlight :=
          if s.acq.scanMode = .continuous ∨ s.acq.singleWaiting = true then
            some { k := s.acq.k, done := 0, sum := 0, finished := [] }
          else none
        singleWaiting := decide (s.acq.scanMode = .continuous) && s.acq.singleWaiting } }

/-- CONVERSION_COMPLETE adds the result to its input, moves on to the next one, and after input 7 publishes one whole
snapshot to its five takers; with no sequence in flight it is discarded. -/
def Obligations.ConversionsMakeASnapshot : Prop :=
  ∀ (s : State) (r : Nat) (level : StandLevel), r ≤ 4095 →
    (s.acq.inFlight = none → exec (.conversionComplete r level) s = .next s) ∧
    ∀ q : Sequence, s.acq.inFlight = some q →
      let q' : Sequence :=
        if q.done + 1 < q.k.toNat then { q with done := q.done + 1, sum := q.sum + r }
        else { q with done := 0, sum := 0, finished := q.finished ++ [(q.sum + r) / q.k.toNat] }
      (q'.finished.length ≠ 8 →
        exec (.conversionComplete r level) s = .next { s with acq := { s.acq with inFlight := some q' } }) ∧
      ∀ x0 x1 x2 x3 x4 x5 x6 x7 : Nat, q'.finished = [x0, x1, x2, x3, x4, x5, x6, x7] →
        ∃ (t : State) (p : Snapshot), exec (.conversionComplete r level) s = .next t ∧
          p.results =
            { leanA := x0, leanB := x1, bar := x2, stroke := x3, iTilt := x4, iSteer := x5, vsup := x6, temp := x7 } ∧
          p.stand = level ∧
          (∀ i : Input, t.acq.railQual.get i =
            (s.acq.railQual.get i).eval (decide (p.results.get i ≤ 15) || decide (4080 ≤ p.results.get i))) ∧
          (∀ i : Input, p.rail.get i = (t.acq.railQual.get i).value) ∧
          t = { s with
            acq := { s.acq with
              railQual := t.acq.railQual, last := p, fresh := .all true, published := true, missed := 0,
              inFlight := none }
            flight := { s.flight with
              snapEst := s.flight.snapEst ++ [p], snapClamp := s.flight.snapClamp ++ [p],
              snapTilt := s.flight.snapTilt ++ [p], snapSteer := s.flight.snapSteer ++ [p],
              snapArb := s.flight.snapArb ++ [p] } }

/-! ## The takers of a snapshot -/

/-- SNAPSHOT_AT_ESTIMATOR: the angles, the disagreement qualifier, the measurement state, the ring, the rates, STAND,
lean excess, and the estimate that is published. -/
def Obligations.SnapshotIsEstimated : Prop :=
  ∀ (s : State) (n : Snapshot) (rest : List Snapshot), s.flight.snapEst = n :: rest →
    let phA := clampMag 9000 ((((n.results.leanA : Int) - s.params.zA) * s.params.sA).tdiv 256)
    let phB := clampMag 9000 ((((n.results.leanB : Int) - s.params.zB) * s.params.sB).tdiv 256)
    let bar :=
      if n.rail.bar then 0 else clampMag 4500 ((((n.results.bar : Int) - s.params.zS) * s.params.sS).tdiv 256)
    let apart := decide (s.params.tol < mag (phA - phB))
    ∃ t, exec .snapshotAtEstimator s = .next t ∧
      t.est.disagree =
        (if n.rail.leanA || n.rail.leanB then { value := false, run := 0 } else s.est.disagree.eval apart) ∧
      (t.est.meas, t.est.phi) =
        (if n.rail.leanA && n.rail.leanB then (.lost, s.est.phi)
        else if n.rail.leanA then (.single, phB)
        else if n.rail.leanB then (.single, phA)
        else if t.est.disagree.value then (.lost, s.est.phi)
        else if apart then (.held, s.est.phi)
        else (.valid, (phA + phB).tdiv 2)) ∧
      t.est.ring =
        (if t.est.meas = .lost then (if s.est.meas = .lost then s.est.ring else [])
        else (if s.est.ring.length < 9 then s.est.ring else s.est.ring.tail) ++ [{ phi := t.est.phi, bar := bar }]) ∧
      t.est.phiRate =
        (match t.est.ring with
        | [o, _, _, _, _, _, _, _, l] => clampMag 30000 ((l.phi - o.phi) * 125)
        | _ => 0) ∧
      t.est.barRate =
        (if n.rail.bar then 0
        else match t.est.ring with
          | [o, _, _, _, _, _, _, _, l] => clampMag 30000 ((l.bar - o.bar) * 125)
          | _ => 0) ∧
      t.est.stand = s.est.stand.eval (decide (n.stand = .down)) ∧
      t.est.excess =
        (if t.est.meas = .lost then s.est.excess
        else s.est.excess.eval (decide (s.params.leanLimit + 300 < mag t.est.phi))) ∧
      t = { s with
        est := t.est, faults := t.faults, stats := t.stats, notices := t.notices
        flight := { s.flight with
          snapEst := rest
          notifications := t.flight.notifications
          estimates := s.flight.estimates ++
            [{ meas := t.est.meas, phi := t.est.phi, bar := bar, phiRate := t.est.phiRate, barRate := t.est.barRate,
               ringFull := decide (t.est.ring.length = 9), stand := t.est.stand.value }] } }

/-- What the estimator reports at a snapshot: BAR_RANGE, DISAGREE_SAMPLES, LEAN_DISAGREE, LEAN_RANGE, STAND_CHANGE and
LEAN_EXCESS, each at its own edge (their order within the event is the model's, log 13). -/
def Obligations.EstimatorReports : Prop :=
  ∀ (s : State) (n : Snapshot) (rest : List Snapshot), s.flight.snapEst = n :: rest →
    ∃ t, exec .snapshotAtEstimator s = .next t ∧
      t.est.railA = n.rail.leanA ∧ t.est.railB = n.rail.leanB ∧ t.est.railBar = n.rail.bar ∧
      let s1 := if !s.est.railBar && n.rail.bar then detect s .barRange else s
      let s2 := if t.est.meas = .held then increment s1 .disagreeSamples else s1
      let s3 := if !s.est.disagree.value && t.est.disagree.value then detect s2 .leanDisagree else s2
      let s4 :=
        if (!s.est.railA && n.rail.leanA) || (!s.est.railB && n.rail.leanB) then detect s3 .leanRange else s3
      let s5 := if s.est.stand.value = t.est.stand.value then s4 else post s4 (.standChange t.est.stand.value)
      let s6 := if !s.est.excess.value && t.est.excess.value then detect s5 .leanExcess else s5
      t.faults = s6.faults ∧ t.stats = s6.stats ∧ t.notices = s6.notices ∧
        t.flight.notifications = s6.flight.notifications

/-- SNAPSHOT_AT_CLAMP: the raw class, the qualified class, the class change that is sent, the three position forms, and
one detection of CLAMP_POSITION when a form rises. -/
def Obligations.SnapshotIsClassified : Prop :=
  ∀ (s : State) (n : Snapshot) (rest : List Snapshot), s.flight.snapClamp = n :: rest →
    let r := n.results.stroke
    let raw : Option StrokeClass :=
      if r ≤ 15 ∨ 4080 ≤ r then none
      else if (r : Int) ≤ s.params.strokeClosedMax then some .closed
      else if s.params.strokeOpenMin ≤ (r : Int) then some .opened
      else some .moving
    let stroke := (match raw with
      | none => s.clamp.stroke
      | some c => s.clamp.stroke.eval c)
    let f1 := n.rail.stroke
    let f2 := decide (stroke.cls = .opened ∧ s.clamp.solenoid = .deEnergized ∧
      (s.ctl.regime = .off ∨ s.ctl.regime = .locked ∨ s.ctl.regime = .failed))
    let f3 := decide ((stroke.cls = .closed ∨ stroke.cls = .moving) ∧ s.ctl.regime = .active)
    let up := (!s.clamp.form1 && f1) || (!s.clamp.form2 && f2) || (!s.clamp.form3 && f3)
    let d := if up then detect s .clampPosition else s
    exec .snapshotAtClamp s = .next { d with
      clamp := { s.clamp with stroke := stroke, form1 := f1, form2 := f2, form3 := f3 }
      flight := { d.flight with
        snapClamp := rest
        clampEvents :=
          s.flight.clampEvents ++ (if stroke.cls = s.clamp.stroke.cls then [] else [.classChange stroke.cls]) } }

/-- SNAPSHOT_AT_CHANNEL: the current, the echo mismatch and overcurrent qualifiers, the new echo reference, and the trip
of each channel. -/
def Obligations.SnapshotAtTheChannels : Prop :=
  ∀ (s : State) (n : Snapshot) (rest : List Snapshot),
    let after := fun (c : DriveChannel) (r : Nat) =>
      let i := (((r : Int) - 2048) * 320).tdiv 256
      { c with
        current := i
        echo := c.echo.eval (decide (50 ≤ mag c.echoRef ∧ 50 ≤ mag i ∧
          ((0 < c.echoRef ∧ i < 0) ∨ (c.echoRef < 0 ∧ 0 < i))))
        echoRef := c.applied
        overcurrent := c.overcurrent.eval (decide ((c.heldLimit * 3).tdiv 2 < mag i)) }
    let trips := fun (c : DriveChannel) (r : Nat) =>
      (!c.echo.value && (after c r).echo.value) || (!c.overcurrent.value && (after c r).overcurrent.value)
    (s.flight.snapTilt = n :: rest →
      let d := if trips s.tilt n.results.iTilt then detect s .tiltDriveTrip else s
      exec (.snapshotAtChannel .tilt) s = .next { d with
        tilt :=
          if trips s.tilt n.results.iTilt then { after s.tilt n.results.iTilt with state := .tripped, applied := 0 }
          else after s.tilt n.results.iTilt
        flight := { d.flight with snapTilt := rest } }) ∧
    (s.flight.snapSteer = n :: rest →
      let acts := trips s.steer n.results.iSteer && !s.faults.table.steerDriveTrip.detectMask
      let d := if acts then detect s .steerDriveTrip else s
      exec (.snapshotAtChannel .steer) s = .next { d with
        steer :=
          if acts && decide (s.params.steerTripAct = .disable) then
            { after s.steer n.results.iSteer with state := .tripped, applied := 0 }
          else after s.steer n.results.iSteer
        flight := { d.flight with snapSteer := rest } })

/-- SNAPSHOT_AT_ARBITER: the two conditions, their qualifiers, and the detections at their rising edges. Where both rise,
that SUPPLY_LOW comes before OVERTEMP is the model's choice (log 28). -/
def Obligations.SnapshotAtTheArbiter : Prop :=
  ∀ (s : State) (n : Snapshot) (rest : List Snapshot), s.flight.snapArb = n :: rest →
    let low := s.arbiter.supplyLow.eval (decide ((n.results.vsup : Int) * 16 < s.params.vsupMin))
    let hot := s.arbiter.overTemp.eval (decide (s.params.tempMax < (n.results.temp : Int).tdiv 2 - 500))
    let d1 := if !s.arbiter.supplyLow.value && low.value then detect s .supplyLow else s
    let d2 := if !s.arbiter.overTemp.value && hot.value then detect d1 .overtemp else d1
    exec .snapshotAtArbiter s = .next { d2 with
      arbiter := { s.arbiter with supplyLow := low, overTemp := hot }
      flight := { d2.flight with snapArb := rest } }

/-! ## The regime controller -/

/-- ESTIMATE in OFF, LOCKED, ENGAGING and FAILED: the latest estimate is replaced, LOCKED may release by speed, a hold
may end, and the decision is published. -/
def Obligations.EstimateWhileClamped : Prop :=
  ∀ (s : State) (e : Estimate) (rest : List Estimate), s.flight.estimates = e :: rest →
    let s' := s.tookEstimate e rest
    (s.ctl.regime = .off → exec .estimate s = .next (s'.decided e)) ∧
    (s.ctl.regime = .locked →
      exec .estimate s = .next (
        if s.params.mode = .auto ∧ s.params.vRelease ≤ s.wheel.v ∧ s.faults.majorPresent = false ∧
          s.tilt.state ≠ .tripped ∧ e.meas = .valid ∧ e.ringFull = true ∧ e.stand = false ∧
          s.clamp.stroke.cls = .closed then (enterReleasing s' .speed).decided e
        else s'.decided e)) ∧
    (s.ctl.regime = .engaging ∨ s.ctl.regime = .failed →
      exec .estimate s = .next (
        if s.ctl.hold = some true ∧ (e.meas = .lost ∨ s.tilt.state = .tripped) then
          State.decided { s' with
            ctl := { s'.ctl with hold := some false }, tilt := s.tilt.told false, steer := s.steer.told true } e
        else s'.decided e))

/-- ESTIMATE in RELEASING, ACTIVE and CAPTURING: loss of measurement first; then capture by STAND and by speed, or abort
by speed and completion; then the decision. -/
def Obligations.EstimateWhileFree : Prop :=
  ∀ (s : State) (e : Estimate) (rest : List Estimate), s.flight.estimates = e :: rest →
    let s' := s.tookEstimate e rest
    (s.ctl.regime = .releasing ∨ s.ctl.regime = .active ∨ s.ctl.regime = .capturing → e.meas = .lost →
      exec .estimate s = .next ((enterEngaging s' true false .fault).decided e)) ∧
    (s.ctl.regime = .releasing → e.meas ≠ .lost → exec .estimate s = .next (s'.decided e)) ∧
    (s.ctl.regime = .active → e.meas ≠ .lost →
      exec .estimate s = .next (
        if e.stand = true then (enterCapturing s' .stand).decided e
        else if s.wheel.v < s.params.vCapture then (enterCapturing s' .speed).decided e
        else s'.decided e)) ∧
    ∀ cause : CaptureCause, s.ctl.regime = .capturing → s.ctl.cause = some cause → e.meas ≠ .lost →
      exec .estimate s = .next (
        if s.params.mode = .auto ∧ cause = .speed ∧ s.params.vRelease ≤ s.wheel.v ∧ e.stand = false then
          (abortCapture s' .speed).decided e
        else if (e.meas = .valid ∨ e.meas = .single) ∧ s.target.phiCmd = 0 ∧ mag e.phi ≤ s.params.capWindow ∧
          mag e.phiRate ≤ s.params.capRate then (enterEngaging s' s.ctl.forced true cause.notice).decided e
        else s'.decided e)

/-- What entry to RELEASING, CAPTURING and ENGAGING does, and what calling a capture off does: the clamp's commands, the
channels, the notices, the counts, and the set and apply commands. -/
def Obligations.EntryOfARegime : Prop :=
  ∀ s : State,
    (∀ cause : NoticeCause,
      enterReleasing s cause =
        { post s (.regime s.ctl.regime .releasing cause) with
          ctl := { s.ctl with regime := .releasing, purpose := some .release }
          clamp := { s.clamp with
            solenoid := s.clamp.solenoid.energize
            run := s.clamp.run + 1
            timer := .running .release s.params.releaseTmo.ms s.params.releaseTmo.ms }
          tilt := s.tilt.told true
          steer := s.steer.told true
          flight := { s.flight with
            targetMsgs := s.flight.targetMsgs ++ [.set s.ctl.latest.phi]
            appliesSent := s.flight.appliesSent + 1 } }) ∧
    (∀ cause : CaptureCause,
      enterCapturing s cause =
        { post s (.regime s.ctl.regime .capturing cause.notice) with
          ctl := { s.ctl with
            regime := .capturing, cause := some cause, forced := decide (cause = .fault)
            capTimer := .running s.params.capTime.toNat, capRun := s.ctl.capRun + 1 }
          tilt := s.tilt.told true
          steer := s.steer.told true }) ∧
    (∀ (forced mayHold : Bool) (cause : NoticeCause),
      let hold := decide (mayHold = true ∧ (s.est.meas = .valid ∨ s.est.meas = .single) ∧ s.tilt.state ≠ .tripped)
      enterEngaging s forced mayHold cause =
        { post s (.regime s.ctl.regime .engaging cause) with
          ctl := { s.ctl with
            regime := .engaging, cause := none, forced := forced, hold := some hold, purpose := some .engage
            capTimer := .stopped }
          clamp := { s.clamp with
            solenoid := .deEnergized
            run := s.clamp.run + 1
            timer := .running .engage s.params.engageTmo.ms s.params.engageTmo.ms }
          tilt := s.tilt.told hold
          steer := s.steer.told true }) ∧
    ∀ cause : NoticeCause,
      abortCapture s cause =
        { increment (post (post s (.regime s.ctl.regime .active cause)) (.captureAbort s.wheel.v)) .captureAborts with
          ctl := { s.ctl with regime := .active, cause := none, capTimer := .stopped }
          tilt := s.tilt.told true
          steer := s.steer.told true }

/-- CLASS_CHANGE confirms a release on OPEN in RELEASING and an engagement on CLOSED in ENGAGING, ends a hold on CLOSED
in FAILED, and changes nothing anywhere else. -/
def Obligations.ClassChangeConfirms : Prop :=
  ∀ (s : State) (c : StrokeClass) (rest : List ClampEvent), s.flight.clampEvents = .classChange c :: rest →
    exec .classChange s = .next (
      let s' : State := { s with flight := { s.flight with clampEvents := rest } }
      if s.ctl.regime = .releasing ∧ c = .opened then
        { increment (post s' (.regime .releasing .active .clamp)) .releases with
          ctl := { s.ctl with regime := .active, purpose := none }
          clamp := { s.clamp with timer := .stopped }
          tilt := s.tilt.told true
          steer := s.steer.told true }
      else if s.ctl.regime = .engaging ∧ c = .closed then
        { increment (post s' (.regime .engaging .locked .clamp)) .engagements with
          ctl := { s.ctl with regime := .locked, purpose := none, hold := none, forced := false }
          clamp := { s.clamp with timer := .stopped }
          tilt := s.tilt.told false
          steer := s.steer.told true }
      else if s.ctl.regime = .failed ∧ c = .closed ∧ s.ctl.hold = some true then
        { s' with
          ctl := { s.ctl with hold := some false }, tilt := s.tilt.told false, steer := s.steer.told true }
      else s')

/-- LOCK_TIMER_EXPIRY_TAKEN ends a release in LOCKED and an engagement in FAILED when its run number is the one held and
the purpose is the regime's; any other expiry is discarded. -/
def Obligations.LockExpiryTimesOut : Prop :=
  ∀ (s : State) (n : RunNumber) (p : RunPurpose) (rest : List ClampEvent),
    s.flight.clampEvents = .lockExpiry n p :: rest →
    exec .lockTimerExpiryTaken s = .next (
      let s' : State := { s with flight := { s.flight with clampEvents := rest } }
      if n = s.clamp.run ∧ s.ctl.regime = .releasing ∧ s.ctl.purpose = some .release then
        { increment (detect (post s' (.regime .releasing .locked .timeout)) .releaseTimeout) .releaseTimeouts with
          ctl := { s.ctl with regime := .locked, purpose := none }
          clamp := { s.clamp with solenoid := .deEnergized }
          tilt := s.tilt.told false
          steer := s.steer.told true }
      else if n = s.clamp.run ∧ s.ctl.regime = .engaging ∧ s.ctl.purpose = some .engage then
        { detect (post s' (.regime .engaging .failed .timeout)) .engageTimeout with
          ctl := { s.ctl with regime := .failed, purpose := none, forced := false }
          tilt := s.tilt.told (decide (s.ctl.hold = some true))
          steer := s.steer.told true }
      else s')

/-- PULL_IN_END and LOCK_TIMER_EXPIRY, when no time remains: the phase becomes HOLD; the run ends and its expiry is sent
with its number and purpose. With time remaining they change nothing (log 3). -/
def Obligations.ClampTimersRunOut : Prop :=
  ∀ s : State,
    (s.clamp.solenoid = .pullIn 0 →
      exec .pullInEnd s = .next { s with clamp := { s.clamp with solenoid := .holding } }) ∧
    (s.clamp.solenoid ≠ .pullIn 0 → exec .pullInEnd s = .next s) ∧
    (∀ (p : RunPurpose) (d : Nat), s.clamp.timer = .running p d 0 →
      exec .lockTimerExpiry s = .next { s with
        clamp := { s.clamp with timer := .stopped }
        flight := { s.flight with clampEvents := s.flight.clampEvents ++ [.lockExpiry s.clamp.run p] } }) ∧
    ((∀ p d, s.clamp.timer ≠ .running p d 0) → exec .lockTimerExpiry s = .next s)

/-- CAPTURE_TIMER_EXPIRY in CAPTURING, with the timer RUNNING and the run number held: CAPTURE_SLOW and EXPIRED in a
normal capture, engagement in a forced one. Any other expiry is discarded. -/
def Obligations.CaptureExpiryIsHandled : Prop :=
  ∀ (s : State) (n : RunNumber) (rest : List RunNumber), s.flight.captureExpiries = n :: rest →
    let s' : State := { s with flight := { s.flight with captureExpiries := rest } }
    (∀ left : Nat, s.ctl.regime = .capturing → s.ctl.capTimer = .running left → n = s.ctl.capRun →
      exec .captureTimerExpiry s = .next (
        if s.ctl.forced then enterEngaging s' true true .timeout
        else { detect s' .captureSlow with ctl := { s.ctl with capTimer := .expired } })) ∧
    (s.ctl.regime ≠ .capturing ∨ (∀ left, s.ctl.capTimer ≠ .running left) ∨ n ≠ s.ctl.capRun →
      exec .captureTimerExpiry s = .next s')

/-- MAJOR_FAULT_NOTIFICATION by regime: forced engagement, forced capture, a capture that becomes forced, or the end of
a hold. -/
def Obligations.MajorFaultForces : Prop :=
  ∀ (s : State) (k : FaultKind) (rest : List FaultKind), s.flight.notifications = k :: rest →
    let s' : State := { s with flight := { s.flight with notifications := rest } }
    let out := s.est.meas = .lost ∨ s.tilt.state = .tripped
    let forcing := out ∨ k = .clampPosition ∨ k = .staleInput
    let mayHold := decide (k ≠ .staleInput)
    (s.ctl.regime = .off ∨ s.ctl.regime = .locked → exec .majorFaultNotification s = .next s') ∧
    (s.ctl.regime = .releasing →
      exec .majorFaultNotification s = .next (enterEngaging s' true mayHold .fault)) ∧
    (s.ctl.regime = .active →
      (forcing → exec .majorFaultNotification s = .next (enterEngaging s' true mayHold .fault)) ∧
      (¬forcing → exec .majorFaultNotification s = .next (enterCapturing s' .fault))) ∧
    (s.ctl.regime = .capturing →
      (forcing → exec .majorFaultNotification s = .next (enterEngaging s' true mayHold .fault)) ∧
      (¬forcing → s.ctl.forced = true → exec .majorFaultNotification s = .next s') ∧
      (¬forcing → s.ctl.forced = false →
        exec .majorFaultNotification s = .next { s' with
          ctl := { s.ctl with
            cause := some .fault, forced := true, capTimer := .running s.params.capTime.toNat
            capRun := s.ctl.capRun + 1 } })) ∧
    (s.ctl.regime = .engaging ∨ s.ctl.regime = .failed →
      (out ∧ s.ctl.hold = some true →
        exec .majorFaultNotification s = .next { s' with
          ctl := { s.ctl with hold := some false }, tilt := s.tilt.told false, steer := s.steer.told true }) ∧
      (¬(out ∧ s.ctl.hold = some true) → exec .majorFaultNotification s = .next s'))

/-! ## The chain -/

/-- SET_COMMAND: φ_cmd becomes the value carried, clamped to ±LEAN_LIMIT; the flag is cleared and T is absent. -/
def Obligations.SetCommandSetsTheLean : Prop :=
  ∀ (s : State) (phi : Int) (rest : List TargetMsg), s.flight.targetMsgs = .set phi :: rest →
    exec .setCommand s = .next { s with
      target := { s.target with target := none, phiCmd := clampMag s.params.leanLimit phi, limited := false }
      flight := { s.flight with targetMsgs := rest } }

/-- APPLY_COMMAND: every pending gain becomes the applied one and no pending value is left, in one event. -/
def Obligations.ApplyCommandAppliesPendingGains : Prop :=
  ∀ s : State, s.flight.appliesTaken < s.flight.appliesSent →
    ∃ t, exec .applyCommand s = .next t ∧
      (∀ g : Gain, t.law.applied.get g =
        (match s.law.held.get g with
        | some x => x
        | none => s.law.applied.get g)) ∧
      (∀ g : Gain, t.law.held.get g = none) ∧
      t = { s with
        law := { s.law with applied := t.law.applied, held := t.law.held }
        flight := { s.flight with appliesTaken := s.flight.appliesTaken + 1 } }

/-- REGIME_DECISION of the leaning kind: the cell, the three interpolations, the clamp with its count, and the step by
R_LEAN with its count. -/
def Obligations.LeaningDecision : Prop :=
  ∀ (s : State) (d : Decision) (rest : List TargetMsg), s.flight.targetMsgs = .decision d :: rest →
    d.regime = .active →
    let v' := min s.wheel.v 1400
    let i := min (v'.tdiv 200) 6
    let f := v' - 200 * i
    let b := clampTo (-2000) 2000 d.est.bar + 2000
    let j := min (b.tdiv 500) 7
    let g := b - 500 * j
    let m := fun (row column : Nat) => mapEntry s.target.map row column
    let top := m i.toNat j.toNat + ((m i.toNat (j.toNat + 1) - m i.toNat j.toNat) * g).tdiv 500
    let bot :=
      m (i.toNat + 1) j.toNat + ((m (i.toNat + 1) (j.toNat + 1) - m (i.toNat + 1) j.toNat) * g).tdiv 500
    let raw := top + ((bot - top) * f).tdiv 200
    let target := clampMag s.params.leanLimit raw
    let far := decide (s.params.rLean < mag (target - s.target.phiCmd))
    let cmd := moved target s.params.rLean s.target.phiCmd
    let s1 := if s.params.leanLimit < mag raw then increment s .targetClamps else s
    let s2 := if far then increment s1 .rateLimited else s1
    exec .regimeDecision s = .next { s2 with
      target := { s.target with target := some target, phiCmd := cmd, limited := far }
      flight := { s.flight with
        targetMsgs := rest, leanCommands := s.flight.leanCommands ++ [{ phiCmd := cmd, decision := d }] } }

/-- REGIME_DECISION of the holding kind ramps φ_cmd toward 0 by R_CAPTURE; of the following kind it follows φ_meas. -/
def Obligations.HoldingAndFollowingDecisions : Prop :=
  ∀ (s : State) (d : Decision) (rest : List TargetMsg), s.flight.targetMsgs = .decision d :: rest →
    (d.holds = true →
      let far := decide (s.params.rCapture < mag (0 - s.target.phiCmd))
      let cmd := moved 0 s.params.rCapture s.target.phiCmd
      exec .regimeDecision s = .next { (if far then increment s .rateLimited else s) with
        target := { s.target with target := some 0, phiCmd := cmd, limited := far }
        flight := { s.flight with
          targetMsgs := rest, leanCommands := s.flight.leanCommands ++ [{ phiCmd := cmd, decision := d }] } }) ∧
    (d.follows = true →
      let cmd :=
        if d.est.meas = .valid ∨ d.est.meas = .single then clampMag s.params.leanLimit d.est.phi
        else s.target.phiCmd
      exec .regimeDecision s = .next { s with
        target := { s.target with target := none, phiCmd := cmd, limited := false }
        flight := { s.flight with
          targetMsgs := rest, leanCommands := s.flight.leanCommands ++ [{ phiCmd := cmd, decision := d }] } })

/-- DEMAND_COMPUTATION: foldback and the effective limits, u, w, D_t, c, m and D_s, each division truncating in its
place, for a decision that waits for no apply command (log 16). -/
def Obligations.DemandsOfADecision : Prop :=
  ∀ (s : State) (c : LeanCommand) (rest : List LeanCommand), s.flight.leanCommands = c :: rest →
    c.decision.applies ≤ s.flight.appliesTaken →
    let hot := s.arbiter.overTemp.value
    let limT := if hot then s.params.ilimT.tdiv 2 else s.params.ilimT
    let limS := if hot then s.params.ilimS.tdiv 2 else s.params.ilimS
    let a := s.law.applied
    let e := c.phiCmd - c.decision.est.phi
    let u :=
      if c.decision.follows then 0
      else clampMag 4000 ((a.kp * e).tdiv 64 - (a.kd * c.decision.est.phiRate).tdiv 256)
    let w :=
      if c.decision.regime = .active then
        if s.wheel.v ≤ a.vbLo then 0
        else if a.vbHi ≤ s.wheel.v then a.wMax
        else (a.wMax * (s.wheel.v - a.vbLo)).tdiv (a.vbHi - a.vbLo)
      else 0
    let dT := if c.decision.follows then 0 else clampMag limT ((u * (256 - w)).tdiv 256)
    let cs := if c.decision.regime = .active then (((-u) * w).tdiv 256 * a.gs).tdiv 64 else 0
    let m := -((a.cd * c.decision.est.barRate).tdiv 256)
    let dS := clampMag limS (cs + m)
    exec .demandComputation s = .next { s with
      law := { s.law with w := w, dT := dT, dS := dS, foldback := hot }
      flight := { s.flight with
        leanCommands := rest
        demands := s.flight.demands ++ [{ dT := dT, dS := dS, limT := limT, limS := limS }] } }

/-- ARBITRATION: the effective budget, the entered demands, the two grants in the order of the priorities, the cut
period with its count and its one notice for a run, and the grants sent. -/
def Obligations.ArbitrationGrants : Prop :=
  ∀ (s : State) (d : Demands) (rest : List Demands), s.flight.demands = d :: rest →
    let budget := if s.arbiter.supplyLow.value then s.params.supplyBudget.tdiv 2 else s.params.supplyBudget
    let dT := if s.tilt.state = .on then d.dT else 0
    let dS := if s.steer.state = .on then d.dS else 0
    let within := fun x left : Int => sgn x * min (mag x) left
    let gT := if s.params.prioS ≤ s.params.prioT then within dT budget else within dT (budget - mag (within dS budget))
    let gS := if s.params.prioS ≤ s.params.prioT then within dS (budget - mag (within dT budget)) else within dS budget
    let cut := decide (mag gT < mag dT ∨ mag gS < mag dS)
    let counted := if cut then increment s .budgetCutPeriods else s
    let told := if cut && !s.arbiter.cutRun then post counted (.budgetCut gT gS) else counted
    exec .arbitration s = .next { told with
      arbiter := { s.arbiter with budget := budget, cutRun := cut }
      flight := { s.flight with
        demands := rest
        grants := s.flight.grants ++ [{ gT := gT, gS := gS, limT := d.limT, limS := d.limS }] } }

/-- GRANT: a channel that is ON applies it, any other applies 0 and keeps nothing of it; the effective limit is held in
every state. Both channels take it in one event. -/
def Obligations.GrantIsApplied : Prop :=
  ∀ (s : State) (g : Grants) (rest : List Grants), s.flight.grants = g :: rest →
    exec .grant s = .next { s with
      tilt := { s.tilt with applied := if s.tilt.state = .on then g.gT else 0, heldLimit := g.limT }
      steer := { s.steer with applied := if s.steer.state = .on then g.gS else 0, heldLimit := g.limS }
      flight := { s.flight with grants := rest } }

/-! ## The wheel -/

/-- WHEEL_PULSE, by the time since the last accepted pulse: a glitch within 200 µs, a timing pulse below 500 000 µs, a
starting pulse otherwise. How the unit's time is held is the model's (log 4). -/
def Obligations.WheelPulseSetsTheSpeed : Prop :=
  ∀ (s : State) (elapsed : Nat),
    (s.wheel.sincePulse = none →
      exec (.wheelPulse elapsed) s = .next { s with
        wheel := { s.wheel with sincePulse := some 0, period := none, glitches := 0, evalLeft := 1000 } }) ∧
    ∀ since : Nat, s.wheel.sincePulse = some since →
      let x := min (since + elapsed) 500000
      (x < 200 →
        let counted := increment s .speedGlitches
        exec (.wheelPulse elapsed) s = .next { (if s.wheel.glitches < 3 then counted else detect counted .speedNoise) with
          wheel := { s.wheel with
            sincePulse := some x
            glitches := if s.wheel.glitches < 3 then s.wheel.glitches + 1 else 0
            evalLeft := s.wheel.evalLeft - elapsed } }) ∧
      (200 ≤ x → x < 500000 →
        exec (.wheelPulse elapsed) s = .next { s with
          wheel :=
            { sincePulse := some 0, period := some x, glitches := 0, evalLeft := 1000
              v := min ((s.params.wheelCirc * 100000).tdiv (s.params.wheelTeeth * x)) 2500 } }) ∧
      (500000 ≤ x →
        exec (.wheelPulse elapsed) s = .next { s with
          wheel := { s.wheel with sincePulse := some 0, period := none, glitches := 0, evalLeft := 1000 } })

/-- EVALUATION_TIMER_EXPIRY: the five tests in order, from the time since the last accepted pulse. When the expiry is due
and when the next one falls are the model's form of the timer (log 4). -/
def Obligations.EvaluationLowersTheSpeed : Prop :=
  ∀ (s : State) (elapsed : Nat),
    (s.wheel.evalLeft ≤ elapsed ∨ (elapsed = 0 ∧ s.wheel.sincePulse = some 0) →
      let since := s.wheel.sincePulse.map fun t => min (t + elapsed) 500000
      exec (.evaluationTimerExpiry elapsed) s = .next { s with
        wheel := { s.wheel with
          sincePulse := since
          evalLeft := 1000 - (elapsed - s.wheel.evalLeft) % 1000
          v := (match since, s.wheel.period with
            | none, _ => s.wheel.v
            | some x, none => if x = 500000 then 0 else s.wheel.v
            | some x, some p =>
              if x = 500000 then 0
              else if p < x then min ((s.params.wheelCirc * 100000).tdiv (s.params.wheelTeeth * x)) 2500
              else s.wheel.v) } }) ∧
    (¬(s.wheel.evalLeft ≤ elapsed ∨ (elapsed = 0 ∧ s.wheel.sincePulse = some 0)) →
      exec (.evaluationTimerExpiry elapsed) s = .next s)

/-! ## The line -/

/-- The receive side with the transmit side IDLE: an address character, a data character outside ADDRESSED, a framing
error and a gap timer expiry, in each receive state. A gap of exactly 1000 µs is no expiry (log 5). In every state, an
address character whose start bit fell before the last reset ended is discarded; a data character and a framing error
would change nothing in the IDLE that a reset leaves (log 29). -/
def Obligations.ReceiveTable : Prop :=
  (∀ s : State, s.line.tx = .idle →
    let idle : StationLine := { s.line with rx := .idle, buffer := [] }
    let bad : State := { increment s .framesBad with line := idle }
    (∀ a : Byte, s.line.rx ≠ .addressed →
      exec (.addressCharacter { data := a, start := .sinceReset }) s = .next (s.addressed a)) ∧
    (∀ a : Byte, s.line.rx = .addressed →
      exec (.addressCharacter { data := a, start := .sinceReset }) s = .next (bad.addressed a)) ∧
    (∀ b : Byte, s.line.rx ≠ .addressed → exec (.dataCharacter b) s = .next s) ∧
    (s.line.rx ≠ .addressed → exec .framingErrorCharacter s = .next s) ∧
    (s.line.rx = .addressed → exec .framingErrorCharacter s = .next bad) ∧
    ∀ elapsed : Nat,
      (s.line.rx = .addressed → 1000 < elapsed → exec (.gapTimerExpiry elapsed) s = .next bad) ∧
      (s.line.rx ≠ .addressed ∨ elapsed ≤ 1000 → exec (.gapTimerExpiry elapsed) s = .next s)) ∧
  ∀ (s : State) (a : Byte), exec (.addressCharacter { data := a, start := .beforeReset }) s = .next s

/-- DATA_CHARACTER in ADDRESSED: a LEN outside 2 to 60, a frame still growing, a good frame handed on with its broadcast
mark, a frame whose check sequence differs; and the check sequence of the digits 1 to 9. -/
def Obligations.DataFillsTheFrame : Prop :=
  (∀ (s : State) (b : Byte), s.line.tx = .idle → s.line.rx = .addressed →
    let bytes := s.line.buffer ++ [b]
    let body := bytes.take (bytes.length - 2)
    (s.line.buffer = [] → b.toNat < 2 ∨ 60 < b.toNat →
      exec (.dataCharacter b) s = .next { increment s .framesBad with
        line := { s.line with rx := .skipping, buffer := [] } }) ∧
    ((s.line.buffer = [] → 2 ≤ b.toNat ∧ b.toNat ≤ 60) →
      (bytes.length ≠ (bytes.headD 0).toNat + 3 →
        exec (.dataCharacter b) s = .next { s with line := { s.line with buffer := bytes } }) ∧
      (bytes.length = (bytes.headD 0).toNat + 3 →
        (checkBytes body = bytes.drop (bytes.length - 2) →
          exec (.dataCharacter b) s = .next { increment s .framesGood with
            line := { s.line with rx := .idle, buffer := [] }
            flight := { s.flight with
              frames := s.flight.frames ++
                [{ kind := bytes.getD 1 0, tag := bytes.getD 2 0, payload := body.drop 3,
                   broadcast := s.line.toBroadcast }] } }) ∧
        (checkBytes body ≠ bytes.drop (bytes.length - 2) →
          exec (.dataCharacter b) s = .next { increment s .framesBad with
            line := { s.line with rx := .idle, buffer := [] } })))) ∧
  checkBytes [0x31, 0x32, 0x33, 0x34, 0x35, 0x36, 0x37, 0x38, 0x39] = [0x29, 0xB1]

/-- The transmit side: the characters of a reply, the turnaround, a reply dropped by an address character, and the
read-back, equal or not; a RESTART's warm reset follows the end of its reply. A character command is the read-back of
that character (logs 5, 7, 20 and 21). -/
def Obligations.ReplyOnTheLine : Prop :=
  (∀ r : Reply, r.chars =
    { data := 0, mark := true, stop := true } ::
      ((r.body ++ checkBytes r.body).map fun b => { data := b, mark := false, stop := true })) ∧
  (∀ r : Reply, r.body = be8 (3 + r.payload.length) ++ [r.kind, r.tag] ++ be8 r.status.code ++ r.payload) ∧
  ∀ s : State,
    (∀ elapsed : Nat,
      (s.line.tx = .turnaround → 100 ≤ elapsed →
        exec (.turnaroundExpiry elapsed) s = .next { s with line := { s.line with tx := .sending 0 } }) ∧
      (s.line.tx ≠ .turnaround ∨ elapsed < 100 → exec (.turnaroundExpiry elapsed) s = .next s)) ∧
    (s.line.tx = .turnaround →
      (∀ a : Byte, exec (.addressCharacter { data := a, start := .sinceReset }) s =
        .next ((s.replyLost .repliesDropped).addressed a).replyOver) ∧
      (∀ b : Byte, exec (.dataCharacter b) s = .next s) ∧
      exec .framingErrorCharacter s = .next s) ∧
    (∀ (n : Nat) (r : Reply) (sent c : LineChar), s.line.tx = .sending n → s.line.reply = some r →
      r.chars[n]? = some sent →
      (c = sent → n + 1 < r.chars.length →
        exec (.readbackCharacter c) s = .next { s with line := { s.line with tx := .sending (n + 1) } }) ∧
      (c = sent → r.chars.length ≤ n + 1 →
        exec (.readbackCharacter c) s =
          .next (State.replyOver { s with line := { s.line with tx := .idle, reply := none } })) ∧
      (c ≠ sent → c.mark = true → c.stop = true →
        exec (.readbackCharacter c) s = .next ((s.replyLost .repliesDropped).addressed c.data).replyOver) ∧
      (c ≠ sent → c.mark = false ∨ c.stop = false →
        exec (.readbackCharacter c) s = .next (s.replyLost .replyCollisions).replyOver)) ∧
    (∀ a : Byte, exec (.addressCharacter { data := a, start := .sinceReset }) s =
      exec (.readbackCharacter { data := a, mark := true, stop := true }) s) ∧
    (∀ b : Byte, exec (.dataCharacter b) s =
      exec (.readbackCharacter { data := b, mark := false, stop := true }) s) ∧
    ∀ (b : Byte) (m : Bool),
      exec .framingErrorCharacter s = exec (.readbackCharacter { data := b, mark := m, stop := false }) s

/-! ## Requests -/

/-- The tests of the request handler: an unknown KIND, a payload of the wrong length, a broadcast of any kind but
SET_PARAM and COMMAND, and a COMMAND code out of range. The reply's KIND byte for a KIND of 0x80 or more is the model's
(log 19), and so is the row of a COMMAND of wrong length (log 18). -/
def Obligations.RequestTests : Prop :=
  ∀ (s : State) (f : Frame) (rest : List Frame), s.flight.frames = f :: rest →
    (f.kind.toNat = 0 ∨ 15 < f.kind.toNat → exec .unknownKind s = .next (s.replied f rest .unknownKind [])) ∧
    (∀ p ∈ requestTable, f.kind = p.2.1 → f.payload.length ≠ p.2.2 →
      exec p.1 s = .next (s.replied f rest .malformed [])) ∧
    (∀ p ∈ requestTable, f.kind = p.2.1 → f.kind ≠ 0x03 → f.kind ≠ 0x07 → f.broadcast = true →
      exec p.1 s = .next (s.dropped rest)) ∧
    ∀ code : Byte, f.kind = 0x07 → f.payload = [code] → code.toNat = 0 ∨ 5 < code.toNat →
      exec .commandCodeOutOfRange s = .next (s.replied f rest .refusedRange [])

/-- IDENT, STATUS, GET_PARAM, MAP_READ and FAULT_READ: what each replies with, byte by byte, and the codes and layouts of
the bytes; the part is otherwise unchanged. Where STATUS reads the rates and STAND is the model's choice (log 15). -/
def Obligations.ReadRequestsReply : Prop :=
  LayoutCodes ∧ ∀ (s : State) (f : Frame) (rest : List Frame), f.broadcast = false →
    (s.asked f rest 0x01 [] →
      exec .ident s =
        .next (s.replied f rest .ok ([0x1C, 0x34, s.line.station] ++ be8 s.line.rateStraps.toNat))) ∧
    (s.asked f rest 0x02 [] → ∃ p : List Byte, exec .status s = .next (s.replied f rest .ok p) ∧ p.length = 56 ∧
      p.take 2 = be8 s.ctl.regime.code ++ be8 (causeCode s.ctl.cause) ∧
      (p.drop 2).take 1 = be8 (bitmap [s.ctl.forced, s.ctl.hold.isSome, decide (s.ctl.hold = some true),
        decide (s.params.mode = .manual), s.est.stand.value]) ∧
      (p.drop 3).take 4 = be8 (purposeCode s.ctl.purpose) ++ be8 s.ctl.capTimer.code ++ be16 s.ctl.capTimer.left ∧
      (p.drop 7).take 10 = be8 s.est.meas.code ++ be8 s.est.ring.length ++ be16 s.est.phi ++ be16 s.est.phiRate ++
        be16 s.est.barRate ++ be16 s.wheel.v ∧
      (p.drop 17).take 5 = be16 s.target.phiCmd ++ be16 (s.target.target.getD 0) ++
        be8 (bitmap [s.target.target.isSome, s.target.limited]) ∧
      (p.drop 22).take 7 = be16 s.law.w ++ be16 s.law.dT ++ be16 s.law.dS ++ be8 (bit s.law.foldback) ∧
      (p.drop 29).take 6 = be8 s.tilt.state.code ++ be8 (bitmap [s.tilt.echo.value, s.tilt.overcurrent.value]) ++
        be16 s.tilt.applied ++ be16 s.tilt.current ∧
      (p.drop 35).take 6 = be8 s.steer.state.code ++ be8 (bitmap [s.steer.echo.value, s.steer.overcurrent.value]) ++
        be16 s.steer.applied ++ be16 s.steer.current ∧
      (p.drop 41).take 3 = be16 s.arbiter.budget ++
        be8 (bitmap [s.arbiter.cutRun, s.arbiter.supplyLow.value, s.arbiter.overTemp.value]) ∧
      (p.drop 44).take 5 =
        be8 s.clamp.solenoid.code ++ be8 s.clamp.stroke.cls.code ++ be8 s.acq.scanMode.code ++ be8 s.acq.k.toNat ++
          be8 (bitmap [s.acq.railQual.leanA.value, s.acq.railQual.leanB.value, s.acq.railQual.bar.value,
            s.acq.railQual.stroke.value, s.acq.railQual.iTilt.value, s.acq.railQual.iSteer.value,
            s.acq.railQual.vsup.value, s.acq.railQual.temp.value]) ∧
      (p.drop 49).take 7 = be8 (bitmap [s.faults.majorPresent, s.faults.minorPresent]) ++ be32 s.notices.now.toNat ++
        be8 s.notices.records.length ++ be8 (bit s.notices.alert)) ∧
    (∀ id : Byte, s.asked f rest 0x04 [id] →
      (id ∉ s.params.byId.map Prod.fst → id ∉ gainIds.map Prod.fst →
        exec .getParam s = .next (s.replied f rest .refusedRange [])) ∧
      (∀ p ∈ s.params.byId, p.1 = id →
        exec .getParam s = .next (s.replied f rest .ok (id :: be32 p.2 ++ [0, 0, 0, 0, 0]))) ∧
      (∀ p ∈ gainIds, p.1 = id →
        exec .getParam s = .next (s.replied f rest .ok
          (id :: be32 (s.law.applied.get p.2) ++ be8 (bit (s.law.held.get p.2).isSome) ++
            be32 ((s.law.held.get p.2).getD 0))))) ∧
    (∀ row : Byte, s.asked f rest 0x06 [row] →
      (7 < row.toNat → exec .mapRead s = .next (s.replied f rest .refusedRange [])) ∧
      (∀ h : row.toNat < 8,
        exec .mapRead s = .next (s.replied f rest .ok (row :: (s.target.map[row.toNat]'h).toList.flatMap be16)))) ∧
    ∀ selector : Byte, s.asked f rest 0x08 [selector] →
      (selector = 255 →
        let severity := fun k : FaultKind => (s.faults.table.get k).status.map FaultSet.severity
        let pointer := s.faults.pointer
        exec .faultRead s = .next (s.replied f rest .ok
          (be8 (bitmap [s.faults.majorPresent, s.faults.minorPresent]) ++
            be16 (bitmap (kindsById.map fun k => (severity k).isSome)) ++
            be16 (bitmap (kindsById.map fun k => decide (severity k = some .major))) ++
            be8 (bit pointer.isSome) ++ be8 ((pointer.map fun p => p.kind.id).getD 0) ++
            be32 ((pointer.map fun p => (p.time.toNat : Int)).getD 0)))) ∧
      (∀ k : FaultKind, selector.toNat = k.id.toNat →
        let r := s.faults.table.get k
        let present := be8 (bit r.status.isSome)
        exec .faultRead s = .next (s.replied f rest .ok
          ([selector] ++ present ++ present ++ be8 ((r.status.map fun x => x.severity.code).getD 0) ++ present ++
            be32 ((r.status.map fun x => (x.time.toNat : Int)).getD 0) ++ be8 r.severity.code ++
            be8 (bit r.detectMask) ++ be8 (bit r.reportMask) ++ be8 (bit (decide (k ∈ fixedKinds)))))) ∧
      (13 < selector.toNat → selector ≠ 255 → exec .faultRead s = .next (s.replied f rest .refusedRange []))

/-- SET_PARAM of every parameter but a gain, in the order of the cases: unknown identifier, calibration outside OFF, a
value that is refused, a numeric value clamped to its range and then across its pair, and an accepted value.
LEAN_LIMIT also clamps φ_cmd. -/
def Obligations.SetParamWritesOneParameter : Prop :=
  ∀ (s : State) (f : Frame) (rest : List Frame) (id b3 b2 b1 b0 : Byte), s.asked f rest 0x03 [id, b3, b2, b1, b0] →
    let x := (b3 ++ b2 ++ b1 ++ b0 : BitVec 32).toInt
    let accepted := fun (p : Params) => { s.replied f rest .ok (id :: be32 x) with params := p }
    let refused := fun (st : Status) => s.replied f rest st []
    (ParamId.ofByte id = none → exec .setParam s = .next (refused .refusedRange)) ∧
    (∀ n : NumParam, ParamId.ofByte id = some (.num n) →
      let r := clampTo n.range.1 n.range.2 x
      let y := (match n with
        | .vRelease => max r (s.params.vCapture + 50)
        | .vCapture => min r (s.params.vRelease - 50)
        | .strokeClosedMax => min r (s.params.strokeOpenMin - 256)
        | .strokeOpenMin => max r (s.params.strokeClosedMax + 256)
        | _ => r)
      exec .setParam s = .next { s.replied f rest (if y = x then .ok else .clamped) (id :: be32 y) with
        params := s.params.setNum n y
        target := if n = .leanLimit then { s.target with phiCmd := clampMag y s.target.phiCmd } else s.target } ∧
      ∀ m : NumParam, (s.params.setNum n y).num m = if m = n then y else s.params.num m) ∧
    (∀ c : CalParam, ParamId.ofByte id = some (.cal c) →
      (s.ctl.regime ≠ .off → exec .setParam s = .next (refused .refusedState)) ∧
      (s.ctl.regime = .off → c.admits x = true → exec .setParam s = .next (accepted (s.params.setCal c x)) ∧
        ∀ d : CalParam, (s.params.setCal c x).cal d = if d = c then x else s.params.cal d) ∧
      (s.ctl.regime = .off → c.admits x = false → exec .setParam s = .next (refused .refusedRange))) ∧
    (ParamId.ofByte id = some .mode →
      (∀ m : Mode, m.toInt = x → exec .setParam s = .next (accepted { s.params with mode := m })) ∧
      (x < 0 ∨ 1 < x → exec .setParam s = .next (refused .refusedRange))) ∧
    (ParamId.ofByte id = some .releaseTmo →
      (∀ c : TimeoutCode, c.toInt = x → exec .setParam s = .next (accepted { s.params with releaseTmo := c })) ∧
      (x < 0 ∨ 5 < x → exec .setParam s = .next (refused .refusedRange))) ∧
    (ParamId.ofByte id = some .engageTmo →
      (∀ c : TimeoutCode, c.toInt = x → exec .setParam s = .next (accepted { s.params with engageTmo := c })) ∧
      (x < 0 ∨ 5 < x → exec .setParam s = .next (refused .refusedRange))) ∧
    (ParamId.ofByte id = some .steerTripAct →
      (∀ a : TripAct, a.toInt = x → exec .setParam s = .next (accepted { s.params with steerTripAct := a })) ∧
      (x < 0 ∨ 1 < x → exec .setParam s = .next (refused .refusedRange))) ∧
    (ParamId.ofByte id = some .counterMode →
      (∀ m : CounterMode, m.toInt = x → exec .setParam s = .next (accepted { s.params with counterMode := m })) ∧
      (x < 0 ∨ 1 < x → exec .setParam s = .next (refused .refusedRange)))

/-- SET_PARAM of a gain: the value is brought to its range and cross-clamped against the effective next value of its
pair, then applied at once in OFF and LOCKED, and pending in every other regime. -/
def Obligations.SetParamOfAGain : Prop :=
  ∀ (s : State) (f : Frame) (rest : List Frame) (id b3 b2 b1 b0 : Byte) (g : Gain),
    s.asked f rest 0x03 [id, b3, b2, b1, b0] → ParamId.ofByte id = some (.gain g) →
    let x := (b3 ++ b2 ++ b1 ++ b0 : BitVec 32).toInt
    let next := fun (h : Gain) => (s.law.held.get h).getD (s.law.applied.get h)
    let r := clampTo g.range.1 g.range.2 x
    let y := (match g with
      | .vbLo => min r (next .vbHi - 100)
      | .vbHi => max r (next .vbLo + 100)
      | _ => r)
    (s.ctl.regime = .off ∨ s.ctl.regime = .locked →
      ∃ t, exec .setParam s = .next t ∧
        (∀ h : Gain, t.law.applied.get h = if h = g then y else s.law.applied.get h) ∧
        (∀ h : Gain, t.law.held.get h = if h = g then none else s.law.held.get h) ∧
        t = { s.replied f rest (if y = x then .ok else .clamped) (id :: be32 y) with
          law := { s.law with applied := t.law.applied, held := t.law.held } }) ∧
    (s.ctl.regime ≠ .off → s.ctl.regime ≠ .locked →
      ∃ t, exec .setParam s = .next t ∧
        (∀ h : Gain, t.law.held.get h = if h = g then some y else s.law.held.get h) ∧
        t = { s.replied f rest .pending (id :: be32 y) with law := { s.law with held := t.law.held } })

/-- MAP_WRITE: dropped by broadcast; else the three tests in order, and an accepted row replaces its nine entries and no
others. -/
def Obligations.MapWriteReplacesARow : Prop :=
  ∀ (s : State) (f : Frame) (rest : List Frame) (payload : List Byte) (row : Byte) (entries : Vector Int 9),
    s.asked f rest 0x05 payload → parseRow payload = some (row, entries) →
    (f.broadcast = true → exec .mapWrite s = .next (s.dropped rest)) ∧
    (f.broadcast = false → 7 < row.toNat → exec .mapWrite s = .next (s.replied f rest .refusedRange [])) ∧
    (f.broadcast = false → row.toNat ≤ 7 → s.ctl.regime ≠ .off → s.ctl.regime ≠ .locked →
      exec .mapWrite s = .next (s.replied f rest .refusedState [])) ∧
    (f.broadcast = false → row.toNat ≤ 7 → s.ctl.regime = .off ∨ s.ctl.regime = .locked →
      ((∃ x ∈ entries.toList, x < -4500 ∨ 4500 < x) →
        exec .mapWrite s = .next (s.replied f rest .refusedRange [])) ∧
      ((∀ x ∈ entries.toList, -4500 ≤ x ∧ x ≤ 4500) →
        ∃ t, exec .mapWrite s = .next t ∧
          (∀ i j : Nat, j < 9 →
            mapEntry t.target.map i j = if i = row.toNat then entries[j]?.getD 0 else mapEntry s.target.map i j) ∧
          t = { s.replied f rest .ok [] with target := { s.target with map := t.target.map } }))

/-- ARM and DISARM in every regime, with the three conditions of ARM in their order. -/
def Obligations.ArmAndDisarm : Prop :=
  ∀ (s : State) (f : Frame) (rest : List Frame),
    (s.asked f rest 0x07 [1] →
      (s.ctl.regime = .off → exec .arm s = .next (
        if s.faults.majorPresent then s.replied f rest .refusedFault []
        else if s.clamp.stroke.cls ≠ .closed ∨ s.acq.scanMode ≠ .continuous then s.replied f rest .refusedState []
        else { post (s.replied f rest .ok [1]) (.regime .off .locked .request) with
          ctl := { s.ctl with regime := .locked }, tilt := s.tilt.told false, steer := s.steer.told true })) ∧
      (s.ctl.regime ≠ .off → s.ctl.regime ≠ .failed →
        exec .arm s = .next (s.replied f rest .ok (be8 s.ctl.regime.code))) ∧
      (s.ctl.regime = .failed → exec .arm s = .next (s.replied f rest .refusedState []))) ∧
    (s.asked f rest 0x07 [2] →
      (s.ctl.regime = .locked → exec .disarm s = .next
        { post (s.replied f rest .ok [0]) (.regime .locked .off .request) with
          ctl := { s.ctl with regime := .off }, tilt := s.tilt.told false, steer := s.steer.told false }) ∧
      (s.ctl.regime ≠ .locked → exec .disarm s = .next (s.replied f rest .refusedState [])))

/-- RELEASE in every regime: the release conditions and the speed floor in LOCKED, the calling off of a capture in
CAPTURING, and which refusal each failure brings. -/
def Obligations.ReleaseRequest : Prop :=
  ∀ (s : State) (f : Frame) (rest : List Frame), s.asked f rest 0x07 [3] →
    (s.ctl.regime = .locked →
      exec .release s = .next (
        if s.params.vCapture ≤ s.wheel.v ∧ s.faults.majorPresent = false ∧ s.tilt.state ≠ .tripped ∧
          s.ctl.latest.meas = .valid ∧ s.ctl.latest.ringFull = true ∧ s.ctl.latest.stand = false ∧
          s.clamp.stroke.cls = .closed then enterReleasing (s.replied f rest .ok [2]) .request
        else if s.faults.majorPresent = true ∨ s.tilt.state = .tripped then s.replied f rest .refusedFault []
        else s.replied f rest .refusedState [])) ∧
    (s.ctl.regime = .off ∨ s.ctl.regime = .engaging ∨ s.ctl.regime = .failed →
      exec .release s = .next (s.replied f rest .refusedState [])) ∧
    (s.ctl.regime = .releasing ∨ s.ctl.regime = .active →
      exec .release s = .next (s.replied f rest .ok (be8 s.ctl.regime.code))) ∧
    (s.ctl.regime = .capturing →
      exec .release s = .next (
        if s.ctl.cause = some .fault ∨ s.faults.majorPresent = true then s.replied f rest .refusedFault []
        else if s.ctl.latest.stand = true ∨ s.wheel.v < s.params.vCapture then s.replied f rest .refusedState []
        else abortCapture (s.replied f rest .ok [3]) .request))

/-- LOCK in every regime: refused in OFF and FAILED, an abandoned release, a capture by request, and a capture by speed
that becomes one by request. -/
def Obligations.LockRequest : Prop :=
  ∀ (s : State) (f : Frame) (rest : List Frame), s.asked f rest 0x07 [4] →
    (s.ctl.regime = .off ∨ s.ctl.regime = .failed →
      exec .lock s = .next (s.replied f rest .refusedState [])) ∧
    (s.ctl.regime = .locked ∨ s.ctl.regime = .engaging →
      exec .lock s = .next (s.replied f rest .ok (be8 s.ctl.regime.code))) ∧
    (s.ctl.regime = .releasing →
      exec .lock s = .next (enterEngaging (s.replied f rest .ok [5]) false true .request)) ∧
    (s.ctl.regime = .active → exec .lock s = .next (enterCapturing (s.replied f rest .ok [4]) .request)) ∧
    (s.ctl.regime = .capturing →
      exec .lock s = .next { s.replied f rest .ok [4] with
        ctl := if s.ctl.cause = some .speed then { s.ctl with cause := some .request } else s.ctl })

/-- RESTART: accepted in OFF, LOCKED and FAILED, with the warm reset left to the end of its reply or, by broadcast, at
once; refused in every other regime. -/
def Obligations.RestartRequest : Prop :=
  ∀ (s : State) (f : Frame) (rest : List Frame), s.asked f rest 0x07 [5] →
    (s.ctl.regime = .off ∨ s.ctl.regime = .locked ∨ s.ctl.regime = .failed →
      (f.broadcast = true →
        exec .restart s = .next (warmReset s)) ∧
      (f.broadcast = false →
        exec .restart s = .next { s.replied f rest .ok (be8 s.ctl.regime.code) with
          line := { s.line.answered f .ok (be8 s.ctl.regime.code) with restartWaiting := true } })) ∧
    (s.ctl.regime ≠ .off → s.ctl.regime ≠ .locked → s.ctl.regime ≠ .failed →
      exec .restart s = .next (s.replied f rest .refusedState []))

/-- FAULT_CLEAR: every kind named and set is cleared, but for a trip outside OFF and LOCKED; the pointer, the summary and
the attention value follow; a channel whose trip is cleared is restored; the reply names what is still set. By
broadcast it is dropped. -/
def Obligations.FaultClearClears : Prop :=
  ∀ (s : State) (f : Frame) (rest : List Frame) (hi lo : Byte), s.asked f rest 0x09 [hi, lo] →
    let bits : BitVec 16 := hi ++ lo
    (f.broadcast = true → exec .faultClear s = .next (s.dropped rest)) ∧
    (f.broadcast = false → bits.getLsbD 14 = true ∨ bits.getLsbD 15 = true →
      exec .faultClear s = .next (s.replied f rest .refusedRange [])) ∧
    (f.broadcast = false → bits.getLsbD 14 = false → bits.getLsbD 15 = false →
      ∃ t, exec .faultClear s = .next t ∧
        (∀ k : FaultKind, t.faults.table.get k =
          if s.clears bits k then { s.faults.table.get k with status := none } else s.faults.table.get k) ∧
        t.faults.pointer = s.faults.pointer.filter (fun p => !s.clears bits p.kind) ∧
        t.faults.majorPresent = t.faults.table.records.any (FaultRecord.setAs .major) ∧
        t.faults.minorPresent = t.faults.table.records.any (FaultRecord.setAs .minor) ∧
        t.tilt =
          (if s.clears bits .tiltDriveTrip && decide (s.tilt.state = .tripped) then
            { s.tilt with state := .off, applied := 0 }
          else s.tilt) ∧
        t.steer =
          (if s.clears bits .steerDriveTrip && decide (s.steer.state = .tripped) then
            { s.steer with state := if s.ctl.regime = .off then .off else .on, applied := 0 }
          else s.steer) ∧
        t.notices.attention = t.faults.table.records.any FaultRecord.wantsAttention ∧
        t.notices.alert = (!s.notices.records.isEmpty || t.notices.attention) ∧
        t = { s.replied f rest .ok
            (be16 (bitmap (kindsById.map fun k =>
              bits.getLsbD k.id.toNat && (t.faults.table.get k).status.isSome))) with
          faults := t.faults, tilt := t.tilt, steer := t.steer
          notices := { s.notices with attention := t.notices.attention, alert := t.notices.alert } })

/-- FAULT_CONFIG: the range tests, the three settings of a kind that is not fixed, the report mask alone of a fixed one,
and the attention value. Statuses, pointer and summary stay. By broadcast it is dropped. -/
def Obligations.FaultConfigWrites : Prop :=
  ∀ (s : State) (f : Frame) (rest : List Frame) (kind sev det rep : Byte),
    s.asked f rest 0x0A [kind, sev, det, rep] →
    (f.broadcast = true → exec .faultConfig s = .next (s.dropped rest)) ∧
    (f.broadcast = false → 13 < kind.toNat ∨ 1 < sev.toNat ∨ 1 < det.toNat ∨ 1 < rep.toNat →
      exec .faultConfig s = .next (s.replied f rest .refusedRange [])) ∧
    ∀ k : FaultKind, f.broadcast = false → kind.toNat = k.id.toNat →
      sev.toNat ≤ 1 → det.toNat ≤ 1 → rep.toNat ≤ 1 →
      let fixed := decide (k ∈ fixedKinds)
      let major := fixed || decide (sev = 1)
      let masked := !fixed && decide (det = 1)
      let table := s.faults.table.set k
        { s.faults.table.get k with
          severity := if major then .major else .minor, detectMask := masked, reportMask := decide (rep = 1) }
      let attention := table.records.any FaultRecord.wantsAttention
      exec .faultConfig s = .next
        { s.replied f rest (if fixed && (decide (sev = 0) || decide (det = 1)) then .clamped else .ok)
            [kind, if major then 1 else 0, if masked then 1 else 0, rep] with
          faults := { s.faults with table := table }
          notices := { s.notices with
            attention := attention, alert := !s.notices.records.isEmpty || attention } }

/-- COUNTER_READ: the range tests; the reply from the counter as it stands with the mask as it stands afterwards; both
flags cleared, the value with the clear option, and the mask action applied. By broadcast it is dropped. -/
def Obligations.CounterReadReports : Prop :=
  ∀ (s : State) (f : Frame) (rest : List Frame) (id clear action : Byte),
    s.asked f rest 0x0B [id, clear, action] →
    (f.broadcast = true → exec .counterRead s = .next (s.dropped rest)) ∧
    (f.broadcast = false → 15 < id.toNat ∨ 1 < clear.toNat ∨ 2 < action.toNat →
      exec .counterRead s = .next (s.replied f rest .refusedRange [])) ∧
    ∀ c : CounterId, f.broadcast = false → id.toNat = c.id.toNat → clear.toNat ≤ 1 → action.toNat ≤ 2 →
      let x := s.stats.get c
      let mask := if action = 1 then true else if action = 2 then false else x.mask
      exec .counterRead s = .next
        { s.replied f rest .ok
            ([id, if c.wide then 32 else 16] ++ be32 x.value ++ be8 (bitmap [x.half, x.full, mask])) with
          stats := s.stats.set c
            { value := if clear = 1 then 0 else x.value, half := false, full := false, mask := mask } }

/-- EVENT_READ: the count taken as 1 to 4, the oldest records removed and returned, the number still held, and
ALERT; the ten bytes of a record of each kind. By broadcast it is dropped. -/
def Obligations.EventReadRemovesTheOldest : Prop :=
  (∀ (t : Stamp) (d : Nat),
    let bytes := fun c : NoticeContent => ({ content := c, time := t, dropped := d } : Notice).bytes
    let layout := fun (kind : Byte) (detail : List Byte) => [kind] ++ be32 t.toNat ++ detail ++ be8 d
    (∀ left entered cause, bytes (.regime left entered cause) =
      layout 1 (be8 left.code ++ be8 entered.code ++ be8 cause.code ++ [0])) ∧
    (∀ kind severity, bytes (.faultSet kind severity) = layout 2 (be8 kind.id ++ be8 severity.code ++ [0, 0])) ∧
    (∀ id, bytes (.counterHalf id) = layout 3 (be8 id.id ++ [0, 0, 0])) ∧
    (∀ id, bytes (.counterFull id) = layout 4 (be8 id.id ++ [0, 0, 0])) ∧
    (∀ tilt steer, bytes (.budgetCut tilt steer) = layout 5 (be16 tilt ++ be16 steer)) ∧
    (∀ v, bytes (.captureAbort v) = layout 6 (be16 v ++ [0, 0])) ∧
    ∀ value, bytes (.standChange value) = layout 7 (be8 (bit value) ++ [0, 0, 0])) ∧
  LayoutCodes ∧ ∀ (s : State) (f : Frame) (rest : List Frame) (count : Byte), s.asked f rest 0x0C [count] →
    let n := max 1 (min count.toNat 4)
    let kept := s.notices.records.drop n
    let out := s.notices.records.take n
    (f.broadcast = true → exec .eventRead s = .next (s.dropped rest)) ∧
    (f.broadcast = false → exec .eventRead s = .next
      { s.replied f rest (if n = count.toNat then .ok else .clamped)
          (be8 kept.length ++ be8 out.length ++ out.flatMap Notice.bytes) with
        notices := { s.notices with records := kept, alert := !kept.isEmpty || s.notices.attention } })

/-- SAMPLE_READ, ACQ_CONFIG and ACQ_SINGLE: the tests of each in order, the three formats, the fresh marker, the
averaging count brought to a permitted one, the sequence abandoned, and the single request. -/
def Obligations.AcquisitionRequests : Prop :=
  ∀ (s : State) (f : Frame) (rest : List Frame), f.broadcast = false →
    (∀ input format : Byte, s.asked f rest 0x0D [input, format] →
      (7 < input.toNat ∨ 2 < format.toNat → exec .sampleRead s = .next (s.replied f rest .refusedRange [])) ∧
      ∀ i : Input, Input.byNumber input.toNat = some i → format.toNat ≤ 2 →
        let r : Int := s.acq.last.results.get i
        let value := if format = 0 then r else if format = 1 then (r - 2048) * 16 else r * 16
        exec .sampleRead s = .next
          { s.replied f rest .ok ([input, format] ++ be16 value ++ be8 (bit (s.acq.fresh.get i))) with
            acq := { s.acq with fresh := s.acq.fresh.set i false } }) ∧
    (∀ mode count : Byte, s.asked f rest 0x0E [mode, count] →
      (1 < mode.toNat → exec .acqConfig s = .next (s.replied f rest .refusedRange [])) ∧
      (mode = 1 → s.ctl.regime ≠ .off → exec .acqConfig s = .next (s.replied f rest .refusedState [])) ∧
      (mode = 0 ∨ (mode = 1 ∧ s.ctl.regime = .off) →
        let k : AvgCount := if count.toNat ≤ 1 then .one else if count.toNat ≤ 3 then .two else .four
        exec .acqConfig s = .next
          { s.replied f rest (if k.toNat = count.toNat then .ok else .clamped) (mode :: be8 k.toNat) with
            acq := { s.acq with
              scanMode := if mode = 0 then .continuous else .single
              k := k, inFlight := none, singleWaiting := false } })) ∧
    (s.asked f rest 0x0F [] →
      (s.acq.scanMode = .single → s.acq.inFlight = none → s.acq.singleWaiting = false →
        exec .acqSingle s = .next { s.replied f rest .ok [] with acq := { s.acq with singleWaiting := true } }) ∧
      (s.acq.scanMode = .continuous ∨ s.acq.inFlight ≠ none ∨ s.acq.singleWaiting = true →
        exec .acqSingle s = .next (s.replied f rest .refusedState [])))

/-! ## The shared operations -/

/-- The two-valued and the multi-valued qualifier. -/
def Obligations.QualifiersTakeThree : Prop :=
  (∀ (q : Qual) (raw : Bool), q.run ≤ 2 →
    (raw = q.value → q.eval raw = { value := q.value, run := 0 }) ∧
    (raw ≠ q.value → q.run < 2 → q.eval raw = { value := q.value, run := q.run + 1 }) ∧
    (raw ≠ q.value → q.run = 2 → q.eval raw = { value := raw, run := 0 })) ∧
  ∀ (q : ClassQual) (raw : StrokeClass), q.run ≤ 2 →
    (raw = q.cls → q.eval raw = { cls := q.cls, candidate := none, run := 0 }) ∧
    (raw ≠ q.cls → q.candidate = some raw → q.run < 2 →
      q.eval raw = { cls := q.cls, candidate := some raw, run := q.run + 1 }) ∧
    (raw ≠ q.cls → q.candidate = some raw → q.run = 2 → q.eval raw = { cls := raw, candidate := none, run := 0 }) ∧
    (raw ≠ q.cls → q.candidate ≠ some raw → q.eval raw = { cls := q.cls, candidate := some raw, run := 1 })

/-- A post is stored as the newest record while fewer than 16 are held, and otherwise goes into the newest record's
dropped count, up to 255; ALERT is asserted either way. -/
def Obligations.PostStoresOrDrops : Prop :=
  ∀ (s : State) (c : NoticeContent),
    (s.notices.records.length < 16 →
      post s c = { s with notices := { s.notices with
        records := s.notices.records ++ [{ content := c, time := s.notices.now, dropped := 0 }], alert := true } }) ∧
    ∀ (older : List Notice) (newest : Notice), s.notices.records = older ++ [newest] → 15 ≤ older.length →
      post s c = { s with notices := { s.notices with
        records := older ++ [{ newest with dropped := min (newest.dropped + 1) 255 }], alert := true } }

/-- An increment: the value after it in either mode, the flags set when it reaches the half or the full value, and the
notice of each unless the counter's notice mask is set. -/
def Obligations.IncrementCounts : Prop :=
  ∀ (s : State) (id : CounterId),
    let x := s.stats.get id
    let full := if id.wide then 4294967295 else 65535
    let half := if id.wide then 2147483648 else 32768
    let v := if x.value < full then x.value + 1 else if s.params.counterMode = .wrap then 0 else x.value
    let atHalf := decide (v ≠ x.value ∧ v = half)
    let atFull := decide (v ≠ x.value ∧ v = full)
    let s1 : State := { s with
      stats := s.stats.set id { x with value := v, half := x.half || atHalf, full := x.full || atFull } }
    let s2 := if atHalf && !x.mask then post s1 (.counterHalf id) else s1
    increment s id = if atFull && !x.mask then post s2 (.counterFull id) else s2

/-- A detection: ignored under the detect mask; recorded when the status is clear, with its count, notice, pointer,
summary and notification; a repeat when it is set. -/
def Obligations.DetectionIsRecorded : Prop :=
  ∀ (s : State) (k : FaultKind),
    let r := s.faults.table.get k
    let c := increment s .faultsSet
    (r.detectMask = true → detect s k = s) ∧
    (r.detectMask = false → r.status = none →
      ∃ t, detect s k = t ∧
        t.faults.table =
          s.faults.table.set k { r with status := some { severity := r.severity, time := s.notices.now } } ∧
        t.faults.pointer =
          (if s.faults.pointer = none ∧ r.reportMask = false then some { kind := k, time := s.notices.now }
          else s.faults.pointer) ∧
        t.faults.majorPresent = t.faults.table.records.any (FaultRecord.setAs .major) ∧
        t.faults.minorPresent = t.faults.table.records.any (FaultRecord.setAs .minor) ∧
        t.notices.records =
          (if r.reportMask then c.notices.records else (post c (.faultSet k r.severity)).notices.records) ∧
        t.notices.attention = t.faults.table.records.any FaultRecord.wantsAttention ∧
        t.notices.alert = (!t.notices.records.isEmpty || t.notices.attention) ∧
        t = { s with
          faults := t.faults, stats := c.stats
          notices := { s.notices with
            records := t.notices.records, attention := t.notices.attention, alert := t.notices.alert }
          flight := { s.flight with
            notifications := s.flight.notifications ++ (if r.severity = .major then [k] else []) } }) ∧
    ∀ f : FaultSet, r.detectMask = false → r.status = some f →
      detect s k = { c with flight := { s.flight with
        notifications := s.flight.notifications ++ (if f.severity = .major then [k] else []) } }

/-- Where each channel is enabled, what a channel makes of being told so, and what the solenoid makes of an energize
command. -/
def Obligations.ChannelsAndSolenoidObey : Prop :=
  (∀ (r : Regime) (h : Option Bool),
    (tiltEnabled r h = true ↔ r = .releasing ∨ r = .active ∨ r = .capturing ∨
      ((r = .engaging ∨ r = .failed) ∧ h = some true)) ∧
    (steerEnabled r = true ↔ r ≠ .off)) ∧
  (∀ c : DriveChannel,
    (c.state = .off → c.told true = { c with state := .on, applied := 0 } ∧ c.told false = c) ∧
    (c.state = .on → c.told true = c ∧ c.told false = { c with state := .off, applied := 0 }) ∧
    (c.state = .tripped → c.told true = c ∧ c.told false = c)) ∧
  Solenoid.deEnergized.energize = .pullIn 100 ∧ Solenoid.holding.energize = .holding ∧
    ∀ n : Nat, (Solenoid.pullIn n).energize = .pullIn n

/-! ## What every step keeps -/

/-- Every law holds right after reset. -/
def Obligations.ResetIsLawful : Prop := State.reset.Lawful

/-- The solenoid is energized only in RELEASING, ACTIVE and CAPTURING; the regime controller's pieces are present exactly
where they should be; a part in SINGLE mode stands in OFF. -/
def Obligations.RegimeLawsAreKept : Prop :=
  ∀ s t : State, step s = .next t →
    (s.SolenoidLaw → t.SolenoidLaw) ∧ (s.RegimeLaw → t.RegimeLaw) ∧ (s.ScanLaw → t.ScanLaw)

/-- A channel that is not TRIPPED is ON exactly where it is enabled and applies 0 unless ON; it is TRIPPED only while its
trip status is set; the fixed kinds stay MAJOR and unmasked. -/
def Obligations.ChannelLawsAreKept : Prop :=
  ∀ s t : State, step s = .next t → (s.ChannelLaw → t.ChannelLaw) ∧ (s.TripLaw → t.TripLaw)

/-- The summary is derived from the records, and a valid first-fault pointer names a kind that is SET, with its time;
the queue holds at most 16 records, no dropped count exceeds 255, and ALERT is asserted exactly while a record is held
or a set status has its report mask clear. -/
def Obligations.ReportingLawsAreKept : Prop :=
  ∀ s t : State, step s = .next t → (s.FaultLaw → t.FaultLaw) ∧ (s.NoticeLaw → t.NoticeLaw)

/-- Every parameter and every gain stays in its range, and the cross-clamped pairs keep their margins. -/
def Obligations.RangeLawsAreKept : Prop :=
  ∀ s t : State, step s = .next t → (s.ParamLaw → t.ParamLaw) ∧ (s.GainLaw → t.GainLaw)

/-- |φ_cmd| never exceeds LEAN_LIMIT; the speed stays within 0 to 2500 and is 0 once the wheel stands; the ring holds at
most 9 records, and the rates are 0 unless it holds 9. -/
def Obligations.LeanLawsAreKept : Prop :=
  ∀ s t : State, step s = .next t → s.ParamLaw →
    (s.CommandLaw → t.CommandLaw) ∧ (s.WheelLaw → t.WheelLaw) ∧ (s.RingLaw → t.RingLaw)

/-- Every demand under way, every grant under way and every applied demand stays within the effective limit it came
with. -/
def Obligations.LimitLawIsKept : Prop :=
  ∀ s t : State, step s = .next t → s.ParamLaw → s.LimitLaw → t.LimitLaw

/-- The receive buffer is empty outside ADDRESSED, a reply is held exactly while the transmit side is not IDLE, and a
RESTART waits only for a reply that has not ended. -/
def Obligations.LineLawIsKept : Prop := ∀ s t : State, step s = .next t → s.LineLaw → t.LineLaw

end
end

