-- ==== Sys2Proof/Laws/State.lean ====
section
/-! SUPPORT. Sys2Proof/Laws/State.lean: reading a block of the state after one block has been written, for every block and
every update of Machine/Ops.lean; and reading the tables after one entry has been written. -/

namespace Sys2Proof.Machine

section Blocks

variable (s : State)

/-! ### After `setCtl` -/

@[simp] theorem State.setCtl_ctl (x : RegimeCtl) : (s.setCtl x).ctl = x := rfl
@[simp] theorem State.setCtl_clamp (x : RegimeCtl) : (s.setCtl x).clamp = s.clamp := rfl
@[simp] theorem State.setCtl_acq (x : RegimeCtl) : (s.setCtl x).acq = s.acq := rfl
@[simp] theorem State.setCtl_wheel (x : RegimeCtl) : (s.setCtl x).wheel = s.wheel := rfl
@[simp] theorem State.setCtl_est (x : RegimeCtl) : (s.setCtl x).est = s.est := rfl
@[simp] theorem State.setCtl_target (x : RegimeCtl) : (s.setCtl x).target = s.target := rfl
@[simp] theorem State.setCtl_law (x : RegimeCtl) : (s.setCtl x).law = s.law := rfl
@[simp] theorem State.setCtl_tilt (x : RegimeCtl) : (s.setCtl x).tilt = s.tilt := rfl
@[simp] theorem State.setCtl_steer (x : RegimeCtl) : (s.setCtl x).steer = s.steer := rfl
@[simp] theorem State.setCtl_arbiter (x : RegimeCtl) : (s.setCtl x).arbiter = s.arbiter := rfl
@[simp] theorem State.setCtl_faults (x : RegimeCtl) : (s.setCtl x).faults = s.faults := rfl
@[simp] theorem State.setCtl_stats (x : RegimeCtl) : (s.setCtl x).stats = s.stats := rfl
@[simp] theorem State.setCtl_notices (x : RegimeCtl) : (s.setCtl x).notices = s.notices := rfl
@[simp] theorem State.setCtl_params (x : RegimeCtl) : (s.setCtl x).params = s.params := rfl
@[simp] theorem State.setCtl_line (x : RegimeCtl) : (s.setCtl x).line = s.line := rfl
@[simp] theorem State.setCtl_flight (x : RegimeCtl) : (s.setCtl x).flight = s.flight := rfl
@[simp] theorem State.setCtl_pending (x : RegimeCtl) : (s.setCtl x).pending = s.pending := rfl

/-! ### After `setClamp` -/

@[simp] theorem State.setClamp_ctl (x : ClampCtl) : (s.setClamp x).ctl = s.ctl := rfl
@[simp] theorem State.setClamp_clamp (x : ClampCtl) : (s.setClamp x).clamp = x := rfl
@[simp] theorem State.setClamp_acq (x : ClampCtl) : (s.setClamp x).acq = s.acq := rfl
@[simp] theorem State.setClamp_wheel (x : ClampCtl) : (s.setClamp x).wheel = s.wheel := rfl
@[simp] theorem State.setClamp_est (x : ClampCtl) : (s.setClamp x).est = s.est := rfl
@[simp] theorem State.setClamp_target (x : ClampCtl) : (s.setClamp x).target = s.target := rfl
@[simp] theorem State.setClamp_law (x : ClampCtl) : (s.setClamp x).law = s.law := rfl
@[simp] theorem State.setClamp_tilt (x : ClampCtl) : (s.setClamp x).tilt = s.tilt := rfl
@[simp] theorem State.setClamp_steer (x : ClampCtl) : (s.setClamp x).steer = s.steer := rfl
@[simp] theorem State.setClamp_arbiter (x : ClampCtl) : (s.setClamp x).arbiter = s.arbiter := rfl
@[simp] theorem State.setClamp_faults (x : ClampCtl) : (s.setClamp x).faults = s.faults := rfl
@[simp] theorem State.setClamp_stats (x : ClampCtl) : (s.setClamp x).stats = s.stats := rfl
@[simp] theorem State.setClamp_notices (x : ClampCtl) : (s.setClamp x).notices = s.notices := rfl
@[simp] theorem State.setClamp_params (x : ClampCtl) : (s.setClamp x).params = s.params := rfl
@[simp] theorem State.setClamp_line (x : ClampCtl) : (s.setClamp x).line = s.line := rfl
@[simp] theorem State.setClamp_flight (x : ClampCtl) : (s.setClamp x).flight = s.flight := rfl
@[simp] theorem State.setClamp_pending (x : ClampCtl) : (s.setClamp x).pending = s.pending := rfl

/-! ### After `setAcq` -/

@[simp] theorem State.setAcq_ctl (x : Sequencer) : (s.setAcq x).ctl = s.ctl := rfl
@[simp] theorem State.setAcq_clamp (x : Sequencer) : (s.setAcq x).clamp = s.clamp := rfl
@[simp] theorem State.setAcq_acq (x : Sequencer) : (s.setAcq x).acq = x := rfl
@[simp] theorem State.setAcq_wheel (x : Sequencer) : (s.setAcq x).wheel = s.wheel := rfl
@[simp] theorem State.setAcq_est (x : Sequencer) : (s.setAcq x).est = s.est := rfl
@[simp] theorem State.setAcq_target (x : Sequencer) : (s.setAcq x).target = s.target := rfl
@[simp] theorem State.setAcq_law (x : Sequencer) : (s.setAcq x).law = s.law := rfl
@[simp] theorem State.setAcq_tilt (x : Sequencer) : (s.setAcq x).tilt = s.tilt := rfl
@[simp] theorem State.setAcq_steer (x : Sequencer) : (s.setAcq x).steer = s.steer := rfl
@[simp] theorem State.setAcq_arbiter (x : Sequencer) : (s.setAcq x).arbiter = s.arbiter := rfl
@[simp] theorem State.setAcq_faults (x : Sequencer) : (s.setAcq x).faults = s.faults := rfl
@[simp] theorem State.setAcq_stats (x : Sequencer) : (s.setAcq x).stats = s.stats := rfl
@[simp] theorem State.setAcq_notices (x : Sequencer) : (s.setAcq x).notices = s.notices := rfl
@[simp] theorem State.setAcq_params (x : Sequencer) : (s.setAcq x).params = s.params := rfl
@[simp] theorem State.setAcq_line (x : Sequencer) : (s.setAcq x).line = s.line := rfl
@[simp] theorem State.setAcq_flight (x : Sequencer) : (s.setAcq x).flight = s.flight := rfl
@[simp] theorem State.setAcq_pending (x : Sequencer) : (s.setAcq x).pending = s.pending := rfl

/-! ### After `setWheel` -/

@[simp] theorem State.setWheel_ctl (x : WheelUnit) : (s.setWheel x).ctl = s.ctl := rfl
@[simp] theorem State.setWheel_clamp (x : WheelUnit) : (s.setWheel x).clamp = s.clamp := rfl
@[simp] theorem State.setWheel_acq (x : WheelUnit) : (s.setWheel x).acq = s.acq := rfl
@[simp] theorem State.setWheel_wheel (x : WheelUnit) : (s.setWheel x).wheel = x := rfl
@[simp] theorem State.setWheel_est (x : WheelUnit) : (s.setWheel x).est = s.est := rfl
@[simp] theorem State.setWheel_target (x : WheelUnit) : (s.setWheel x).target = s.target := rfl
@[simp] theorem State.setWheel_law (x : WheelUnit) : (s.setWheel x).law = s.law := rfl
@[simp] theorem State.setWheel_tilt (x : WheelUnit) : (s.setWheel x).tilt = s.tilt := rfl
@[simp] theorem State.setWheel_steer (x : WheelUnit) : (s.setWheel x).steer = s.steer := rfl
@[simp] theorem State.setWheel_arbiter (x : WheelUnit) : (s.setWheel x).arbiter = s.arbiter := rfl
@[simp] theorem State.setWheel_faults (x : WheelUnit) : (s.setWheel x).faults = s.faults := rfl
@[simp] theorem State.setWheel_stats (x : WheelUnit) : (s.setWheel x).stats = s.stats := rfl
@[simp] theorem State.setWheel_notices (x : WheelUnit) : (s.setWheel x).notices = s.notices := rfl
@[simp] theorem State.setWheel_params (x : WheelUnit) : (s.setWheel x).params = s.params := rfl
@[simp] theorem State.setWheel_line (x : WheelUnit) : (s.setWheel x).line = s.line := rfl
@[simp] theorem State.setWheel_flight (x : WheelUnit) : (s.setWheel x).flight = s.flight := rfl
@[simp] theorem State.setWheel_pending (x : WheelUnit) : (s.setWheel x).pending = s.pending := rfl

/-! ### After `setEst` -/

@[simp] theorem State.setEst_ctl (x : Estimator) : (s.setEst x).ctl = s.ctl := rfl
@[simp] theorem State.setEst_clamp (x : Estimator) : (s.setEst x).clamp = s.clamp := rfl
@[simp] theorem State.setEst_acq (x : Estimator) : (s.setEst x).acq = s.acq := rfl
@[simp] theorem State.setEst_wheel (x : Estimator) : (s.setEst x).wheel = s.wheel := rfl
@[simp] theorem State.setEst_est (x : Estimator) : (s.setEst x).est = x := rfl
@[simp] theorem State.setEst_target (x : Estimator) : (s.setEst x).target = s.target := rfl
@[simp] theorem State.setEst_law (x : Estimator) : (s.setEst x).law = s.law := rfl
@[simp] theorem State.setEst_tilt (x : Estimator) : (s.setEst x).tilt = s.tilt := rfl
@[simp] theorem State.setEst_steer (x : Estimator) : (s.setEst x).steer = s.steer := rfl
@[simp] theorem State.setEst_arbiter (x : Estimator) : (s.setEst x).arbiter = s.arbiter := rfl
@[simp] theorem State.setEst_faults (x : Estimator) : (s.setEst x).faults = s.faults := rfl
@[simp] theorem State.setEst_stats (x : Estimator) : (s.setEst x).stats = s.stats := rfl
@[simp] theorem State.setEst_notices (x : Estimator) : (s.setEst x).notices = s.notices := rfl
@[simp] theorem State.setEst_params (x : Estimator) : (s.setEst x).params = s.params := rfl
@[simp] theorem State.setEst_line (x : Estimator) : (s.setEst x).line = s.line := rfl
@[simp] theorem State.setEst_flight (x : Estimator) : (s.setEst x).flight = s.flight := rfl
@[simp] theorem State.setEst_pending (x : Estimator) : (s.setEst x).pending = s.pending := rfl

/-! ### After `setTarget` -/

@[simp] theorem State.setTarget_ctl (x : TargetGen) : (s.setTarget x).ctl = s.ctl := rfl
@[simp] theorem State.setTarget_clamp (x : TargetGen) : (s.setTarget x).clamp = s.clamp := rfl
@[simp] theorem State.setTarget_acq (x : TargetGen) : (s.setTarget x).acq = s.acq := rfl
@[simp] theorem State.setTarget_wheel (x : TargetGen) : (s.setTarget x).wheel = s.wheel := rfl
@[simp] theorem State.setTarget_est (x : TargetGen) : (s.setTarget x).est = s.est := rfl
@[simp] theorem State.setTarget_target (x : TargetGen) : (s.setTarget x).target = x := rfl
@[simp] theorem State.setTarget_law (x : TargetGen) : (s.setTarget x).law = s.law := rfl
@[simp] theorem State.setTarget_tilt (x : TargetGen) : (s.setTarget x).tilt = s.tilt := rfl
@[simp] theorem State.setTarget_steer (x : TargetGen) : (s.setTarget x).steer = s.steer := rfl
@[simp] theorem State.setTarget_arbiter (x : TargetGen) : (s.setTarget x).arbiter = s.arbiter := rfl
@[simp] theorem State.setTarget_faults (x : TargetGen) : (s.setTarget x).faults = s.faults := rfl
@[simp] theorem State.setTarget_stats (x : TargetGen) : (s.setTarget x).stats = s.stats := rfl
@[simp] theorem State.setTarget_notices (x : TargetGen) : (s.setTarget x).notices = s.notices := rfl
@[simp] theorem State.setTarget_params (x : TargetGen) : (s.setTarget x).params = s.params := rfl
@[simp] theorem State.setTarget_line (x : TargetGen) : (s.setTarget x).line = s.line := rfl
@[simp] theorem State.setTarget_flight (x : TargetGen) : (s.setTarget x).flight = s.flight := rfl
@[simp] theorem State.setTarget_pending (x : TargetGen) : (s.setTarget x).pending = s.pending := rfl

/-! ### After `setLaw` -/

@[simp] theorem State.setLaw_ctl (x : ControlLaw) : (s.setLaw x).ctl = s.ctl := rfl
@[simp] theorem State.setLaw_clamp (x : ControlLaw) : (s.setLaw x).clamp = s.clamp := rfl
@[simp] theorem State.setLaw_acq (x : ControlLaw) : (s.setLaw x).acq = s.acq := rfl
@[simp] theorem State.setLaw_wheel (x : ControlLaw) : (s.setLaw x).wheel = s.wheel := rfl
@[simp] theorem State.setLaw_est (x : ControlLaw) : (s.setLaw x).est = s.est := rfl
@[simp] theorem State.setLaw_target (x : ControlLaw) : (s.setLaw x).target = s.target := rfl
@[simp] theorem State.setLaw_law (x : ControlLaw) : (s.setLaw x).law = x := rfl
@[simp] theorem State.setLaw_tilt (x : ControlLaw) : (s.setLaw x).tilt = s.tilt := rfl
@[simp] theorem State.setLaw_steer (x : ControlLaw) : (s.setLaw x).steer = s.steer := rfl
@[simp] theorem State.setLaw_arbiter (x : ControlLaw) : (s.setLaw x).arbiter = s.arbiter := rfl
@[simp] theorem State.setLaw_faults (x : ControlLaw) : (s.setLaw x).faults = s.faults := rfl
@[simp] theorem State.setLaw_stats (x : ControlLaw) : (s.setLaw x).stats = s.stats := rfl
@[simp] theorem State.setLaw_notices (x : ControlLaw) : (s.setLaw x).notices = s.notices := rfl
@[simp] theorem State.setLaw_params (x : ControlLaw) : (s.setLaw x).params = s.params := rfl
@[simp] theorem State.setLaw_line (x : ControlLaw) : (s.setLaw x).line = s.line := rfl
@[simp] theorem State.setLaw_flight (x : ControlLaw) : (s.setLaw x).flight = s.flight := rfl
@[simp] theorem State.setLaw_pending (x : ControlLaw) : (s.setLaw x).pending = s.pending := rfl

/-! ### After `setTilt` -/

@[simp] theorem State.setTilt_ctl (x : DriveChannel) : (s.setTilt x).ctl = s.ctl := rfl
@[simp] theorem State.setTilt_clamp (x : DriveChannel) : (s.setTilt x).clamp = s.clamp := rfl
@[simp] theorem State.setTilt_acq (x : DriveChannel) : (s.setTilt x).acq = s.acq := rfl
@[simp] theorem State.setTilt_wheel (x : DriveChannel) : (s.setTilt x).wheel = s.wheel := rfl
@[simp] theorem State.setTilt_est (x : DriveChannel) : (s.setTilt x).est = s.est := rfl
@[simp] theorem State.setTilt_target (x : DriveChannel) : (s.setTilt x).target = s.target := rfl
@[simp] theorem State.setTilt_law (x : DriveChannel) : (s.setTilt x).law = s.law := rfl
@[simp] theorem State.setTilt_tilt (x : DriveChannel) : (s.setTilt x).tilt = x := rfl
@[simp] theorem State.setTilt_steer (x : DriveChannel) : (s.setTilt x).steer = s.steer := rfl
@[simp] theorem State.setTilt_arbiter (x : DriveChannel) : (s.setTilt x).arbiter = s.arbiter := rfl
@[simp] theorem State.setTilt_faults (x : DriveChannel) : (s.setTilt x).faults = s.faults := rfl
@[simp] theorem State.setTilt_stats (x : DriveChannel) : (s.setTilt x).stats = s.stats := rfl
@[simp] theorem State.setTilt_notices (x : DriveChannel) : (s.setTilt x).notices = s.notices := rfl
@[simp] theorem State.setTilt_params (x : DriveChannel) : (s.setTilt x).params = s.params := rfl
@[simp] theorem State.setTilt_line (x : DriveChannel) : (s.setTilt x).line = s.line := rfl
@[simp] theorem State.setTilt_flight (x : DriveChannel) : (s.setTilt x).flight = s.flight := rfl
@[simp] theorem State.setTilt_pending (x : DriveChannel) : (s.setTilt x).pending = s.pending := rfl

/-! ### After `setSteer` -/

@[simp] theorem State.setSteer_ctl (x : DriveChannel) : (s.setSteer x).ctl = s.ctl := rfl
@[simp] theorem State.setSteer_clamp (x : DriveChannel) : (s.setSteer x).clamp = s.clamp := rfl
@[simp] theorem State.setSteer_acq (x : DriveChannel) : (s.setSteer x).acq = s.acq := rfl
@[simp] theorem State.setSteer_wheel (x : DriveChannel) : (s.setSteer x).wheel = s.wheel := rfl
@[simp] theorem State.setSteer_est (x : DriveChannel) : (s.setSteer x).est = s.est := rfl
@[simp] theorem State.setSteer_target (x : DriveChannel) : (s.setSteer x).target = s.target := rfl
@[simp] theorem State.setSteer_law (x : DriveChannel) : (s.setSteer x).law = s.law := rfl
@[simp] theorem State.setSteer_tilt (x : DriveChannel) : (s.setSteer x).tilt = s.tilt := rfl
@[simp] theorem State.setSteer_steer (x : DriveChannel) : (s.setSteer x).steer = x := rfl
@[simp] theorem State.setSteer_arbiter (x : DriveChannel) : (s.setSteer x).arbiter = s.arbiter := rfl
@[simp] theorem State.setSteer_faults (x : DriveChannel) : (s.setSteer x).faults = s.faults := rfl
@[simp] theorem State.setSteer_stats (x : DriveChannel) : (s.setSteer x).stats = s.stats := rfl
@[simp] theorem State.setSteer_notices (x : DriveChannel) : (s.setSteer x).notices = s.notices := rfl
@[simp] theorem State.setSteer_params (x : DriveChannel) : (s.setSteer x).params = s.params := rfl
@[simp] theorem State.setSteer_line (x : DriveChannel) : (s.setSteer x).line = s.line := rfl
@[simp] theorem State.setSteer_flight (x : DriveChannel) : (s.setSteer x).flight = s.flight := rfl
@[simp] theorem State.setSteer_pending (x : DriveChannel) : (s.setSteer x).pending = s.pending := rfl

/-! ### After `setArbiter` -/

@[simp] theorem State.setArbiter_ctl (x : Arbiter) : (s.setArbiter x).ctl = s.ctl := rfl
@[simp] theorem State.setArbiter_clamp (x : Arbiter) : (s.setArbiter x).clamp = s.clamp := rfl
@[simp] theorem State.setArbiter_acq (x : Arbiter) : (s.setArbiter x).acq = s.acq := rfl
@[simp] theorem State.setArbiter_wheel (x : Arbiter) : (s.setArbiter x).wheel = s.wheel := rfl
@[simp] theorem State.setArbiter_est (x : Arbiter) : (s.setArbiter x).est = s.est := rfl
@[simp] theorem State.setArbiter_target (x : Arbiter) : (s.setArbiter x).target = s.target := rfl
@[simp] theorem State.setArbiter_law (x : Arbiter) : (s.setArbiter x).law = s.law := rfl
@[simp] theorem State.setArbiter_tilt (x : Arbiter) : (s.setArbiter x).tilt = s.tilt := rfl
@[simp] theorem State.setArbiter_steer (x : Arbiter) : (s.setArbiter x).steer = s.steer := rfl
@[simp] theorem State.setArbiter_arbiter (x : Arbiter) : (s.setArbiter x).arbiter = x := rfl
@[simp] theorem State.setArbiter_faults (x : Arbiter) : (s.setArbiter x).faults = s.faults := rfl
@[simp] theorem State.setArbiter_stats (x : Arbiter) : (s.setArbiter x).stats = s.stats := rfl
@[simp] theorem State.setArbiter_notices (x : Arbiter) : (s.setArbiter x).notices = s.notices := rfl
@[simp] theorem State.setArbiter_params (x : Arbiter) : (s.setArbiter x).params = s.params := rfl
@[simp] theorem State.setArbiter_line (x : Arbiter) : (s.setArbiter x).line = s.line := rfl
@[simp] theorem State.setArbiter_flight (x : Arbiter) : (s.setArbiter x).flight = s.flight := rfl
@[simp] theorem State.setArbiter_pending (x : Arbiter) : (s.setArbiter x).pending = s.pending := rfl

/-! ### After `setFaults` -/

@[simp] theorem State.setFaults_ctl (x : FaultUnit) : (s.setFaults x).ctl = s.ctl := rfl
@[simp] theorem State.setFaults_clamp (x : FaultUnit) : (s.setFaults x).clamp = s.clamp := rfl
@[simp] theorem State.setFaults_acq (x : FaultUnit) : (s.setFaults x).acq = s.acq := rfl
@[simp] theorem State.setFaults_wheel (x : FaultUnit) : (s.setFaults x).wheel = s.wheel := rfl
@[simp] theorem State.setFaults_est (x : FaultUnit) : (s.setFaults x).est = s.est := rfl
@[simp] theorem State.setFaults_target (x : FaultUnit) : (s.setFaults x).target = s.target := rfl
@[simp] theorem State.setFaults_law (x : FaultUnit) : (s.setFaults x).law = s.law := rfl
@[simp] theorem State.setFaults_tilt (x : FaultUnit) : (s.setFaults x).tilt = s.tilt := rfl
@[simp] theorem State.setFaults_steer (x : FaultUnit) : (s.setFaults x).steer = s.steer := rfl
@[simp] theorem State.setFaults_arbiter (x : FaultUnit) : (s.setFaults x).arbiter = s.arbiter := rfl
@[simp] theorem State.setFaults_faults (x : FaultUnit) : (s.setFaults x).faults = x := rfl
@[simp] theorem State.setFaults_stats (x : FaultUnit) : (s.setFaults x).stats = s.stats := rfl
@[simp] theorem State.setFaults_notices (x : FaultUnit) : (s.setFaults x).notices = s.notices := rfl
@[simp] theorem State.setFaults_params (x : FaultUnit) : (s.setFaults x).params = s.params := rfl
@[simp] theorem State.setFaults_line (x : FaultUnit) : (s.setFaults x).line = s.line := rfl
@[simp] theorem State.setFaults_flight (x : FaultUnit) : (s.setFaults x).flight = s.flight := rfl
@[simp] theorem State.setFaults_pending (x : FaultUnit) : (s.setFaults x).pending = s.pending := rfl

/-! ### After `setStats` -/

@[simp] theorem State.setStats_ctl (x : CounterTable) : (s.setStats x).ctl = s.ctl := rfl
@[simp] theorem State.setStats_clamp (x : CounterTable) : (s.setStats x).clamp = s.clamp := rfl
@[simp] theorem State.setStats_acq (x : CounterTable) : (s.setStats x).acq = s.acq := rfl
@[simp] theorem State.setStats_wheel (x : CounterTable) : (s.setStats x).wheel = s.wheel := rfl
@[simp] theorem State.setStats_est (x : CounterTable) : (s.setStats x).est = s.est := rfl
@[simp] theorem State.setStats_target (x : CounterTable) : (s.setStats x).target = s.target := rfl
@[simp] theorem State.setStats_law (x : CounterTable) : (s.setStats x).law = s.law := rfl
@[simp] theorem State.setStats_tilt (x : CounterTable) : (s.setStats x).tilt = s.tilt := rfl
@[simp] theorem State.setStats_steer (x : CounterTable) : (s.setStats x).steer = s.steer := rfl
@[simp] theorem State.setStats_arbiter (x : CounterTable) : (s.setStats x).arbiter = s.arbiter := rfl
@[simp] theorem State.setStats_faults (x : CounterTable) : (s.setStats x).faults = s.faults := rfl
@[simp] theorem State.setStats_stats (x : CounterTable) : (s.setStats x).stats = x := rfl
@[simp] theorem State.setStats_notices (x : CounterTable) : (s.setStats x).notices = s.notices := rfl
@[simp] theorem State.setStats_params (x : CounterTable) : (s.setStats x).params = s.params := rfl
@[simp] theorem State.setStats_line (x : CounterTable) : (s.setStats x).line = s.line := rfl
@[simp] theorem State.setStats_flight (x : CounterTable) : (s.setStats x).flight = s.flight := rfl
@[simp] theorem State.setStats_pending (x : CounterTable) : (s.setStats x).pending = s.pending := rfl

/-! ### After `setNotices` -/

@[simp] theorem State.setNotices_ctl (x : NoticeQueue) : (s.setNotices x).ctl = s.ctl := rfl
@[simp] theorem State.setNotices_clamp (x : NoticeQueue) : (s.setNotices x).clamp = s.clamp := rfl
@[simp] theorem State.setNotices_acq (x : NoticeQueue) : (s.setNotices x).acq = s.acq := rfl
@[simp] theorem State.setNotices_wheel (x : NoticeQueue) : (s.setNotices x).wheel = s.wheel := rfl
@[simp] theorem State.setNotices_est (x : NoticeQueue) : (s.setNotices x).est = s.est := rfl
@[simp] theorem State.setNotices_target (x : NoticeQueue) : (s.setNotices x).target = s.target := rfl
@[simp] theorem State.setNotices_law (x : NoticeQueue) : (s.setNotices x).law = s.law := rfl
@[simp] theorem State.setNotices_tilt (x : NoticeQueue) : (s.setNotices x).tilt = s.tilt := rfl
@[simp] theorem State.setNotices_steer (x : NoticeQueue) : (s.setNotices x).steer = s.steer := rfl
@[simp] theorem State.setNotices_arbiter (x : NoticeQueue) : (s.setNotices x).arbiter = s.arbiter := rfl
@[simp] theorem State.setNotices_faults (x : NoticeQueue) : (s.setNotices x).faults = s.faults := rfl
@[simp] theorem State.setNotices_stats (x : NoticeQueue) : (s.setNotices x).stats = s.stats := rfl
@[simp] theorem State.setNotices_notices (x : NoticeQueue) : (s.setNotices x).notices = x := rfl
@[simp] theorem State.setNotices_params (x : NoticeQueue) : (s.setNotices x).params = s.params := rfl
@[simp] theorem State.setNotices_line (x : NoticeQueue) : (s.setNotices x).line = s.line := rfl
@[simp] theorem State.setNotices_flight (x : NoticeQueue) : (s.setNotices x).flight = s.flight := rfl
@[simp] theorem State.setNotices_pending (x : NoticeQueue) : (s.setNotices x).pending = s.pending := rfl

/-! ### After `setParams` -/

@[simp] theorem State.setParams_ctl (x : Params) : (s.setParams x).ctl = s.ctl := rfl
@[simp] theorem State.setParams_clamp (x : Params) : (s.setParams x).clamp = s.clamp := rfl
@[simp] theorem State.setParams_acq (x : Params) : (s.setParams x).acq = s.acq := rfl
@[simp] theorem State.setParams_wheel (x : Params) : (s.setParams x).wheel = s.wheel := rfl
@[simp] theorem State.setParams_est (x : Params) : (s.setParams x).est = s.est := rfl
@[simp] theorem State.setParams_target (x : Params) : (s.setParams x).target = s.target := rfl
@[simp] theorem State.setParams_law (x : Params) : (s.setParams x).law = s.law := rfl
@[simp] theorem State.setParams_tilt (x : Params) : (s.setParams x).tilt = s.tilt := rfl
@[simp] theorem State.setParams_steer (x : Params) : (s.setParams x).steer = s.steer := rfl
@[simp] theorem State.setParams_arbiter (x : Params) : (s.setParams x).arbiter = s.arbiter := rfl
@[simp] theorem State.setParams_faults (x : Params) : (s.setParams x).faults = s.faults := rfl
@[simp] theorem State.setParams_stats (x : Params) : (s.setParams x).stats = s.stats := rfl
@[simp] theorem State.setParams_notices (x : Params) : (s.setParams x).notices = s.notices := rfl
@[simp] theorem State.setParams_params (x : Params) : (s.setParams x).params = x := rfl
@[simp] theorem State.setParams_line (x : Params) : (s.setParams x).line = s.line := rfl
@[simp] theorem State.setParams_flight (x : Params) : (s.setParams x).flight = s.flight := rfl
@[simp] theorem State.setParams_pending (x : Params) : (s.setParams x).pending = s.pending := rfl

/-! ### After `setLine` -/

@[simp] theorem State.setLine_ctl (x : StationLine) : (s.setLine x).ctl = s.ctl := rfl
@[simp] theorem State.setLine_clamp (x : StationLine) : (s.setLine x).clamp = s.clamp := rfl
@[simp] theorem State.setLine_acq (x : StationLine) : (s.setLine x).acq = s.acq := rfl
@[simp] theorem State.setLine_wheel (x : StationLine) : (s.setLine x).wheel = s.wheel := rfl
@[simp] theorem State.setLine_est (x : StationLine) : (s.setLine x).est = s.est := rfl
@[simp] theorem State.setLine_target (x : StationLine) : (s.setLine x).target = s.target := rfl
@[simp] theorem State.setLine_law (x : StationLine) : (s.setLine x).law = s.law := rfl
@[simp] theorem State.setLine_tilt (x : StationLine) : (s.setLine x).tilt = s.tilt := rfl
@[simp] theorem State.setLine_steer (x : StationLine) : (s.setLine x).steer = s.steer := rfl
@[simp] theorem State.setLine_arbiter (x : StationLine) : (s.setLine x).arbiter = s.arbiter := rfl
@[simp] theorem State.setLine_faults (x : StationLine) : (s.setLine x).faults = s.faults := rfl
@[simp] theorem State.setLine_stats (x : StationLine) : (s.setLine x).stats = s.stats := rfl
@[simp] theorem State.setLine_notices (x : StationLine) : (s.setLine x).notices = s.notices := rfl
@[simp] theorem State.setLine_params (x : StationLine) : (s.setLine x).params = s.params := rfl
@[simp] theorem State.setLine_line (x : StationLine) : (s.setLine x).line = x := rfl
@[simp] theorem State.setLine_flight (x : StationLine) : (s.setLine x).flight = s.flight := rfl
@[simp] theorem State.setLine_pending (x : StationLine) : (s.setLine x).pending = s.pending := rfl

/-! ### After `setFlight` -/

@[simp] theorem State.setFlight_ctl (x : Flight) : (s.setFlight x).ctl = s.ctl := rfl
@[simp] theorem State.setFlight_clamp (x : Flight) : (s.setFlight x).clamp = s.clamp := rfl
@[simp] theorem State.setFlight_acq (x : Flight) : (s.setFlight x).acq = s.acq := rfl
@[simp] theorem State.setFlight_wheel (x : Flight) : (s.setFlight x).wheel = s.wheel := rfl
@[simp] theorem State.setFlight_est (x : Flight) : (s.setFlight x).est = s.est := rfl
@[simp] theorem State.setFlight_target (x : Flight) : (s.setFlight x).target = s.target := rfl
@[simp] theorem State.setFlight_law (x : Flight) : (s.setFlight x).law = s.law := rfl
@[simp] theorem State.setFlight_tilt (x : Flight) : (s.setFlight x).tilt = s.tilt := rfl
@[simp] theorem State.setFlight_steer (x : Flight) : (s.setFlight x).steer = s.steer := rfl
@[simp] theorem State.setFlight_arbiter (x : Flight) : (s.setFlight x).arbiter = s.arbiter := rfl
@[simp] theorem State.setFlight_faults (x : Flight) : (s.setFlight x).faults = s.faults := rfl
@[simp] theorem State.setFlight_stats (x : Flight) : (s.setFlight x).stats = s.stats := rfl
@[simp] theorem State.setFlight_notices (x : Flight) : (s.setFlight x).notices = s.notices := rfl
@[simp] theorem State.setFlight_params (x : Flight) : (s.setFlight x).params = s.params := rfl
@[simp] theorem State.setFlight_line (x : Flight) : (s.setFlight x).line = s.line := rfl
@[simp] theorem State.setFlight_flight (x : Flight) : (s.setFlight x).flight = x := rfl
@[simp] theorem State.setFlight_pending (x : Flight) : (s.setFlight x).pending = s.pending := rfl

end Blocks

/-! ## Tables -/

/-- The entry just written is read back. -/
@[simp] theorem PerInput.get_set_self {α : Type} (t : PerInput α) (k : Input) (x : α) : (t.set k x).get k = x := by
  cases k <;> rfl

/-- Every other entry is as before. -/
theorem PerInput.get_set_of_ne {α : Type} (t : PerInput α) (k j : Input) (x : α) (h : j ≠ k) :
    (t.set k x).get j = t.get j := by
  cases k <;> cases j <;> first | rfl | exact absurd rfl h

/-- Both cases at once. -/
theorem PerInput.get_set {α : Type} (t : PerInput α) (k j : Input) (x : α) :
    (t.set k x).get j = if j = k then x else t.get j := by
  split
  next h => subst h; exact t.get_set_self j x
  next h => exact t.get_set_of_ne k j x h

/-- The entry just written is read back. -/
@[simp] theorem PerGain.get_set_self {α : Type} (t : PerGain α) (k : Gain) (x : α) : (t.set k x).get k = x := by
  cases k <;> rfl

/-- Every other entry is as before. -/
theorem PerGain.get_set_of_ne {α : Type} (t : PerGain α) (k j : Gain) (x : α) (h : j ≠ k) :
    (t.set k x).get j = t.get j := by
  cases k <;> cases j <;> first | rfl | exact absurd rfl h

/-- Both cases at once. -/
theorem PerGain.get_set {α : Type} (t : PerGain α) (k j : Gain) (x : α) :
    (t.set k x).get j = if j = k then x else t.get j := by
  split
  next h => subst h; exact t.get_set_self j x
  next h => exact t.get_set_of_ne k j x h

/-- The entry just written is read back. -/
@[simp] theorem FaultTable.get_set_self (t : FaultTable) (k : FaultKind) (x : FaultRecord) : (t.set k x).get k = x := by
  cases k <;> rfl

/-- Every other entry is as before. -/
theorem FaultTable.get_set_of_ne (t : FaultTable) (k j : FaultKind) (x : FaultRecord) (h : j ≠ k) :
    (t.set k x).get j = t.get j := by
  cases k <;> cases j <;> first | rfl | exact absurd rfl h

/-- Both cases at once. -/
theorem FaultTable.get_set (t : FaultTable) (k j : FaultKind) (x : FaultRecord) :
    (t.set k x).get j = if j = k then x else t.get j := by
  split
  next h => subst h; exact t.get_set_self j x
  next h => exact t.get_set_of_ne k j x h

/-- The entry just written is read back. -/
@[simp] theorem CounterTable.get_set_self (t : CounterTable) (k : CounterId) (x : Counter) : (t.set k x).get k = x := by
  cases k <;> rfl

/-- Every other entry is as before. -/
theorem CounterTable.get_set_of_ne (t : CounterTable) (k j : CounterId) (x : Counter) (h : j ≠ k) :
    (t.set k x).get j = t.get j := by
  cases k <;> cases j <;> first | rfl | exact absurd rfl h

/-- Both cases at once. -/
theorem CounterTable.get_set (t : CounterTable) (k j : CounterId) (x : Counter) :
    (t.set k x).get j = if j = k then x else t.get j := by
  split
  next h => subst h; exact t.get_set_self j x
  next h => exact t.get_set_of_ne k j x h

/-- A table of inputs is read after one function was applied to each entry. -/
@[simp] theorem PerInput.get_map {α β : Type} (f : α → β) (t : PerInput α) (k : Input) :
    (t.map f).get k = f (t.get k) := by
  cases k <;> rfl

/-- Two tables of inputs joined entry by entry. -/
@[simp] theorem PerInput.get_zip {α β γ : Type} (f : α → β → γ) (t : PerInput α) (u : PerInput β) (k : Input) :
    (PerInput.zip f t u).get k = f (t.get k) (u.get k) := by
  cases k <;> rfl

/-- The channel written is read back, and the other is as before. -/
@[simp] theorem State.channel_setChannel (s : State) (ch : Channel) (x : DriveChannel) (c : Channel) :
    (s.setChannel ch x).channel c = if c = ch then x else s.channel c := by
  cases ch <;> cases c <;> rfl

end Sys2Proof.Machine
end

