-- ==== Sys2Proof/Laws/Ops.lean ====
section
/-! SUPPORT. Sys2Proof/Laws/Ops.lean: for each shared operation of Machine/Ops.lean, one lemma that says which blocks it
leaves alone and, where that is short, what it leaves in the block it writes. -/

namespace Sys2Proof.Machine

/-- A post writes the notice queue alone; the timestamp count and the attention value stay. -/
@[simp] theorem post_frame (s : State) (c : NoticeContent) :
    (post s c).ctl = s.ctl ∧ (post s c).clamp = s.clamp ∧ (post s c).acq = s.acq ∧ (post s c).wheel = s.wheel ∧
    (post s c).est = s.est ∧ (post s c).target = s.target ∧ (post s c).law = s.law ∧ (post s c).tilt = s.tilt ∧
    (post s c).steer = s.steer ∧ (post s c).arbiter = s.arbiter ∧ (post s c).faults = s.faults ∧
    (post s c).stats = s.stats ∧ (post s c).params = s.params ∧ (post s c).line = s.line ∧
    (post s c).flight = s.flight ∧ (post s c).pending = s.pending ∧ (post s c).notices.now = s.notices.now ∧
    (post s c).notices.attention = s.notices.attention := by
  simp [post, NoticeQueue.refreshAlert]

/-- An increment writes the counters and the notice queue alone. -/
@[simp] theorem increment_frame (s : State) (id : CounterId) :
    (increment s id).ctl = s.ctl ∧ (increment s id).clamp = s.clamp ∧ (increment s id).acq = s.acq ∧
    (increment s id).wheel = s.wheel ∧ (increment s id).est = s.est ∧ (increment s id).target = s.target ∧
    (increment s id).law = s.law ∧ (increment s id).tilt = s.tilt ∧ (increment s id).steer = s.steer ∧
    (increment s id).arbiter = s.arbiter ∧ (increment s id).faults = s.faults ∧ (increment s id).params = s.params ∧
    (increment s id).line = s.line ∧ (increment s id).flight = s.flight ∧ (increment s id).pending = s.pending ∧
    (increment s id).notices.now = s.notices.now ∧ (increment s id).notices.attention = s.notices.attention := by
  unfold increment; dsimp only; split <;> split <;> simp

/-- The summary stands in the fault unit. -/
@[simp] theorem refreshSummary_frame (s : State) :
    (refreshSummary s).ctl = s.ctl ∧ (refreshSummary s).clamp = s.clamp ∧ (refreshSummary s).acq = s.acq ∧
    (refreshSummary s).wheel = s.wheel ∧ (refreshSummary s).est = s.est ∧ (refreshSummary s).target = s.target ∧
    (refreshSummary s).law = s.law ∧ (refreshSummary s).tilt = s.tilt ∧ (refreshSummary s).steer = s.steer ∧
    (refreshSummary s).arbiter = s.arbiter ∧ (refreshSummary s).stats = s.stats ∧
    (refreshSummary s).notices = s.notices ∧ (refreshSummary s).params = s.params ∧
    (refreshSummary s).line = s.line ∧ (refreshSummary s).flight = s.flight ∧
    (refreshSummary s).pending = s.pending ∧ (refreshSummary s).faults.table = s.faults.table ∧
    (refreshSummary s).faults.pointer = s.faults.pointer := by
  simp [refreshSummary]

/-- The attention value stands in the notice queue. -/
@[simp] theorem refreshAttention_frame (s : State) :
    (refreshAttention s).ctl = s.ctl ∧ (refreshAttention s).clamp = s.clamp ∧ (refreshAttention s).acq = s.acq ∧
    (refreshAttention s).wheel = s.wheel ∧ (refreshAttention s).est = s.est ∧
    (refreshAttention s).target = s.target ∧ (refreshAttention s).law = s.law ∧ (refreshAttention s).tilt = s.tilt ∧
    (refreshAttention s).steer = s.steer ∧ (refreshAttention s).arbiter = s.arbiter ∧
    (refreshAttention s).faults = s.faults ∧ (refreshAttention s).stats = s.stats ∧
    (refreshAttention s).params = s.params ∧ (refreshAttention s).line = s.line ∧
    (refreshAttention s).flight = s.flight ∧ (refreshAttention s).pending = s.pending ∧
    (refreshAttention s).notices.now = s.notices.now ∧ (refreshAttention s).notices.records = s.notices.records := by
  simp [refreshAttention, NoticeQueue.refreshAlert]

/-- A record stands in the fault unit. -/
@[simp] theorem setRecord_frame (s : State) (k : FaultKind) (r : FaultRecord) :
    (setRecord s k r).ctl = s.ctl ∧ (setRecord s k r).clamp = s.clamp ∧ (setRecord s k r).acq = s.acq ∧
    (setRecord s k r).wheel = s.wheel ∧ (setRecord s k r).est = s.est ∧ (setRecord s k r).target = s.target ∧
    (setRecord s k r).law = s.law ∧ (setRecord s k r).tilt = s.tilt ∧ (setRecord s k r).steer = s.steer ∧
    (setRecord s k r).arbiter = s.arbiter ∧ (setRecord s k r).stats = s.stats ∧
    (setRecord s k r).notices = s.notices ∧ (setRecord s k r).params = s.params ∧ (setRecord s k r).line = s.line ∧
    (setRecord s k r).flight = s.flight ∧ (setRecord s k r).pending = s.pending ∧
    (setRecord s k r).faults.table = s.faults.table.set k r ∧ (setRecord s k r).faults.pointer = s.faults.pointer ∧
    (setRecord s k r).faults.majorPresent = s.faults.majorPresent ∧
    (setRecord s k r).faults.minorPresent = s.faults.minorPresent := by
  simp [setRecord]

/-- The pointer stands in the fault unit. -/
@[simp] theorem loadPointer_frame (s : State) (k : FaultKind) (r : FaultRecord) :
    (loadPointer s k r).ctl = s.ctl ∧ (loadPointer s k r).clamp = s.clamp ∧ (loadPointer s k r).acq = s.acq ∧
    (loadPointer s k r).wheel = s.wheel ∧ (loadPointer s k r).est = s.est ∧ (loadPointer s k r).target = s.target ∧
    (loadPointer s k r).law = s.law ∧ (loadPointer s k r).tilt = s.tilt ∧ (loadPointer s k r).steer = s.steer ∧
    (loadPointer s k r).arbiter = s.arbiter ∧ (loadPointer s k r).stats = s.stats ∧
    (loadPointer s k r).notices = s.notices ∧ (loadPointer s k r).params = s.params ∧
    (loadPointer s k r).line = s.line ∧ (loadPointer s k r).flight = s.flight ∧
    (loadPointer s k r).pending = s.pending ∧ (loadPointer s k r).faults.table = s.faults.table ∧
    (loadPointer s k r).faults.majorPresent = s.faults.majorPresent ∧
    (loadPointer s k r).faults.minorPresent = s.faults.minorPresent := by
  unfold loadPointer; split <;> simp

/-- A notification goes into its list. -/
@[simp] theorem notify_frame (s : State) (k : FaultKind) :
    (notify s k).ctl = s.ctl ∧ (notify s k).clamp = s.clamp ∧ (notify s k).acq = s.acq ∧
    (notify s k).wheel = s.wheel ∧ (notify s k).est = s.est ∧ (notify s k).target = s.target ∧
    (notify s k).law = s.law ∧ (notify s k).tilt = s.tilt ∧ (notify s k).steer = s.steer ∧
    (notify s k).arbiter = s.arbiter ∧ (notify s k).faults = s.faults ∧ (notify s k).stats = s.stats ∧
    (notify s k).notices = s.notices ∧ (notify s k).params = s.params ∧ (notify s k).line = s.line ∧
    (notify s k).pending = s.pending ∧ (notify s k).flight.snapEst = s.flight.snapEst ∧
    (notify s k).flight.snapClamp = s.flight.snapClamp ∧ (notify s k).flight.snapTilt = s.flight.snapTilt ∧
    (notify s k).flight.snapSteer = s.flight.snapSteer ∧ (notify s k).flight.snapArb = s.flight.snapArb ∧
    (notify s k).flight.estimates = s.flight.estimates ∧ (notify s k).flight.clampEvents = s.flight.clampEvents ∧
    (notify s k).flight.captureExpiries = s.flight.captureExpiries ∧
    (notify s k).flight.targetMsgs = s.flight.targetMsgs ∧
    (notify s k).flight.leanCommands = s.flight.leanCommands ∧
    (notify s k).flight.appliesSent = s.flight.appliesSent ∧
    (notify s k).flight.appliesTaken = s.flight.appliesTaken ∧ (notify s k).flight.demands = s.flight.demands ∧
    (notify s k).flight.grants = s.flight.grants ∧ (notify s k).flight.frames = s.flight.frames ∧
    (notify s k).flight.notifications = s.flight.notifications ++ [k] := by
  simp [notify]

/-- A recorded detection writes the fault unit, the counters, the notice queue and the notifications. -/
@[simp] theorem recordDetection_frame (s : State) (k : FaultKind) (r : FaultRecord) :
    (recordDetection s k r).ctl = s.ctl ∧ (recordDetection s k r).clamp = s.clamp ∧
    (recordDetection s k r).acq = s.acq ∧ (recordDetection s k r).wheel = s.wheel ∧
    (recordDetection s k r).est = s.est ∧ (recordDetection s k r).target = s.target ∧
    (recordDetection s k r).law = s.law ∧ (recordDetection s k r).tilt = s.tilt ∧
    (recordDetection s k r).steer = s.steer ∧ (recordDetection s k r).arbiter = s.arbiter ∧
    (recordDetection s k r).params = s.params ∧ (recordDetection s k r).line = s.line ∧
    (recordDetection s k r).pending = s.pending ∧ (recordDetection s k r).notices.now = s.notices.now ∧
    (recordDetection s k r).flight.snapEst = s.flight.snapEst ∧
    (recordDetection s k r).flight.snapClamp = s.flight.snapClamp ∧
    (recordDetection s k r).flight.snapTilt = s.flight.snapTilt ∧
    (recordDetection s k r).flight.snapSteer = s.flight.snapSteer ∧
    (recordDetection s k r).flight.snapArb = s.flight.snapArb ∧
    (recordDetection s k r).flight.estimates = s.flight.estimates ∧
    (recordDetection s k r).flight.clampEvents = s.flight.clampEvents ∧
    (recordDetection s k r).flight.captureExpiries = s.flight.captureExpiries ∧
    (recordDetection s k r).flight.targetMsgs = s.flight.targetMsgs ∧
    (recordDetection s k r).flight.leanCommands = s.flight.leanCommands ∧
    (recordDetection s k r).flight.appliesSent = s.flight.appliesSent ∧
    (recordDetection s k r).flight.appliesTaken = s.flight.appliesTaken ∧
    (recordDetection s k r).flight.demands = s.flight.demands ∧
    (recordDetection s k r).flight.grants = s.flight.grants ∧
    (recordDetection s k r).flight.frames = s.flight.frames := by
  unfold recordDetection; dsimp only; split <;> split <;> simp

/-- A repeat writes the counters, the notice queue and the notifications. -/
@[simp] theorem repeatDetection_frame (s : State) (k : FaultKind) (sev : Severity) :
    (repeatDetection s k sev).ctl = s.ctl ∧ (repeatDetection s k sev).clamp = s.clamp ∧
    (repeatDetection s k sev).acq = s.acq ∧ (repeatDetection s k sev).wheel = s.wheel ∧
    (repeatDetection s k sev).est = s.est ∧ (repeatDetection s k sev).target = s.target ∧
    (repeatDetection s k sev).law = s.law ∧ (repeatDetection s k sev).tilt = s.tilt ∧
    (repeatDetection s k sev).steer = s.steer ∧ (repeatDetection s k sev).arbiter = s.arbiter ∧
    (repeatDetection s k sev).faults = s.faults ∧ (repeatDetection s k sev).params = s.params ∧
    (repeatDetection s k sev).line = s.line ∧ (repeatDetection s k sev).pending = s.pending ∧
    (repeatDetection s k sev).notices.now = s.notices.now ∧
    (repeatDetection s k sev).flight.snapEst = s.flight.snapEst ∧
    (repeatDetection s k sev).flight.snapClamp = s.flight.snapClamp ∧
    (repeatDetection s k sev).flight.snapTilt = s.flight.snapTilt ∧
    (repeatDetection s k sev).flight.snapSteer = s.flight.snapSteer ∧
    (repeatDetection s k sev).flight.snapArb = s.flight.snapArb ∧
    (repeatDetection s k sev).flight.estimates = s.flight.estimates ∧
    (repeatDetection s k sev).flight.clampEvents = s.flight.clampEvents ∧
    (repeatDetection s k sev).flight.captureExpiries = s.flight.captureExpiries ∧
    (repeatDetection s k sev).flight.targetMsgs = s.flight.targetMsgs ∧
    (repeatDetection s k sev).flight.leanCommands = s.flight.leanCommands ∧
    (repeatDetection s k sev).flight.appliesSent = s.flight.appliesSent ∧
    (repeatDetection s k sev).flight.appliesTaken = s.flight.appliesTaken ∧
    (repeatDetection s k sev).flight.demands = s.flight.demands ∧
    (repeatDetection s k sev).flight.grants = s.flight.grants ∧
    (repeatDetection s k sev).flight.frames = s.flight.frames := by
  unfold repeatDetection; dsimp only; split <;> simp

/-- A detection writes the fault unit, the counters, the notice queue and the notifications. -/
@[simp] theorem detect_frame (s : State) (k : FaultKind) :
    (detect s k).ctl = s.ctl ∧ (detect s k).clamp = s.clamp ∧ (detect s k).acq = s.acq ∧
    (detect s k).wheel = s.wheel ∧ (detect s k).est = s.est ∧ (detect s k).target = s.target ∧
    (detect s k).law = s.law ∧ (detect s k).tilt = s.tilt ∧ (detect s k).steer = s.steer ∧
    (detect s k).arbiter = s.arbiter ∧ (detect s k).params = s.params ∧ (detect s k).line = s.line ∧
    (detect s k).pending = s.pending ∧ (detect s k).notices.now = s.notices.now ∧
    (detect s k).flight.snapEst = s.flight.snapEst ∧ (detect s k).flight.snapClamp = s.flight.snapClamp ∧
    (detect s k).flight.snapTilt = s.flight.snapTilt ∧ (detect s k).flight.snapSteer = s.flight.snapSteer ∧
    (detect s k).flight.snapArb = s.flight.snapArb ∧ (detect s k).flight.estimates = s.flight.estimates ∧
    (detect s k).flight.clampEvents = s.flight.clampEvents ∧
    (detect s k).flight.captureExpiries = s.flight.captureExpiries ∧
    (detect s k).flight.targetMsgs = s.flight.targetMsgs ∧
    (detect s k).flight.leanCommands = s.flight.leanCommands ∧
    (detect s k).flight.appliesSent = s.flight.appliesSent ∧
    (detect s k).flight.appliesTaken = s.flight.appliesTaken ∧ (detect s k).flight.demands = s.flight.demands ∧
    (detect s k).flight.grants = s.flight.grants ∧ (detect s k).flight.frames = s.flight.frames := by
  unfold detect; dsimp only; split
  · simp
  · split <;> simp

/-- Telling the regime writes the two channels. -/
@[simp] theorem tellChannels_frame (s : State) :
    (tellChannels s).ctl = s.ctl ∧ (tellChannels s).clamp = s.clamp ∧ (tellChannels s).acq = s.acq ∧
    (tellChannels s).wheel = s.wheel ∧ (tellChannels s).est = s.est ∧ (tellChannels s).target = s.target ∧
    (tellChannels s).law = s.law ∧ (tellChannels s).arbiter = s.arbiter ∧ (tellChannels s).faults = s.faults ∧
    (tellChannels s).stats = s.stats ∧ (tellChannels s).notices = s.notices ∧ (tellChannels s).params = s.params ∧
    (tellChannels s).line = s.line ∧ (tellChannels s).flight = s.flight ∧ (tellChannels s).pending = s.pending ∧
    (tellChannels s).tilt = s.tilt.told (tiltEnabled s.ctl.regime s.ctl.hold) ∧
    (tellChannels s).steer = s.steer.told (steerEnabled s.ctl.regime) := by
  simp [tellChannels]

/-- An energize command writes the clamp's solenoid. -/
@[simp] theorem energize_frame (s : State) :
    (energize s).ctl = s.ctl ∧ (energize s).acq = s.acq ∧ (energize s).wheel = s.wheel ∧ (energize s).est = s.est ∧
    (energize s).target = s.target ∧ (energize s).law = s.law ∧ (energize s).tilt = s.tilt ∧
    (energize s).steer = s.steer ∧ (energize s).arbiter = s.arbiter ∧ (energize s).faults = s.faults ∧
    (energize s).stats = s.stats ∧ (energize s).notices = s.notices ∧ (energize s).params = s.params ∧
    (energize s).line = s.line ∧ (energize s).flight = s.flight ∧ (energize s).pending = s.pending ∧
    (energize s).clamp.stroke = s.clamp.stroke ∧ (energize s).clamp.solenoid = s.clamp.solenoid.energize ∧
    (energize s).clamp.run = s.clamp.run ∧ (energize s).clamp.timer = s.clamp.timer := by
  simp [energize]

/-- A de-energize command writes the clamp's solenoid. -/
@[simp] theorem deEnergize_frame (s : State) :
    (deEnergize s).ctl = s.ctl ∧ (deEnergize s).acq = s.acq ∧ (deEnergize s).wheel = s.wheel ∧
    (deEnergize s).est = s.est ∧ (deEnergize s).target = s.target ∧ (deEnergize s).law = s.law ∧
    (deEnergize s).tilt = s.tilt ∧ (deEnergize s).steer = s.steer ∧ (deEnergize s).arbiter = s.arbiter ∧
    (deEnergize s).faults = s.faults ∧ (deEnergize s).stats = s.stats ∧ (deEnergize s).notices = s.notices ∧
    (deEnergize s).params = s.params ∧ (deEnergize s).line = s.line ∧ (deEnergize s).flight = s.flight ∧
    (deEnergize s).pending = s.pending ∧ (deEnergize s).clamp.stroke = s.clamp.stroke ∧
    (deEnergize s).clamp.solenoid = .deEnergized ∧ (deEnergize s).clamp.run = s.clamp.run ∧
    (deEnergize s).clamp.timer = s.clamp.timer := by
  simp [deEnergize]

/-- A start command writes the clamp's lock timer and its run number. -/
@[simp] theorem startLock_frame (s : State) (p : RunPurpose) :
    (startLock s p).ctl = s.ctl ∧ (startLock s p).acq = s.acq ∧ (startLock s p).wheel = s.wheel ∧
    (startLock s p).est = s.est ∧ (startLock s p).target = s.target ∧ (startLock s p).law = s.law ∧
    (startLock s p).tilt = s.tilt ∧ (startLock s p).steer = s.steer ∧ (startLock s p).arbiter = s.arbiter ∧
    (startLock s p).faults = s.faults ∧ (startLock s p).stats = s.stats ∧ (startLock s p).notices = s.notices ∧
    (startLock s p).params = s.params ∧ (startLock s p).line = s.line ∧ (startLock s p).flight = s.flight ∧
    (startLock s p).pending = s.pending ∧ (startLock s p).clamp.stroke = s.clamp.stroke ∧
    (startLock s p).clamp.solenoid = s.clamp.solenoid ∧ (startLock s p).clamp.run = s.clamp.run + 1 ∧
    (startLock s p).clamp.timer = .running p (lockTimeout s.params p) (lockTimeout s.params p) := by
  simp [startLock]

/-- A cancel command writes the clamp's lock timer. -/
@[simp] theorem cancelLock_frame (s : State) :
    (cancelLock s).ctl = s.ctl ∧ (cancelLock s).acq = s.acq ∧ (cancelLock s).wheel = s.wheel ∧
    (cancelLock s).est = s.est ∧ (cancelLock s).target = s.target ∧ (cancelLock s).law = s.law ∧
    (cancelLock s).tilt = s.tilt ∧ (cancelLock s).steer = s.steer ∧ (cancelLock s).arbiter = s.arbiter ∧
    (cancelLock s).faults = s.faults ∧ (cancelLock s).stats = s.stats ∧ (cancelLock s).notices = s.notices ∧
    (cancelLock s).params = s.params ∧ (cancelLock s).line = s.line ∧ (cancelLock s).flight = s.flight ∧
    (cancelLock s).pending = s.pending ∧ (cancelLock s).clamp.stroke = s.clamp.stroke ∧
    (cancelLock s).clamp.solenoid = s.clamp.solenoid ∧ (cancelLock s).clamp.run = s.clamp.run ∧
    (cancelLock s).clamp.timer = .stopped := by
  simp [cancelLock]

/-- A reply stands in the line interface. -/
@[simp] theorem putReply_frame (s : State) (f : Frame) (st : Status) (p : List Byte) :
    (putReply s f st p).ctl = s.ctl ∧ (putReply s f st p).clamp = s.clamp ∧ (putReply s f st p).acq = s.acq ∧
    (putReply s f st p).wheel = s.wheel ∧ (putReply s f st p).est = s.est ∧ (putReply s f st p).target = s.target ∧
    (putReply s f st p).law = s.law ∧ (putReply s f st p).tilt = s.tilt ∧ (putReply s f st p).steer = s.steer ∧
    (putReply s f st p).arbiter = s.arbiter ∧ (putReply s f st p).faults = s.faults ∧
    (putReply s f st p).stats = s.stats ∧ (putReply s f st p).notices = s.notices ∧
    (putReply s f st p).params = s.params ∧ (putReply s f st p).flight = s.flight ∧
    (putReply s f st p).pending = s.pending ∧ (putReply s f st p).line.stationStraps = s.line.stationStraps ∧
    (putReply s f st p).line.rateStraps = s.line.rateStraps ∧ (putReply s f st p).line.rx = s.line.rx ∧
    (putReply s f st p).line.buffer = s.line.buffer ∧
    (putReply s f st p).line.restartWaiting = s.line.restartWaiting := by
  unfold putReply; split <;> simp

end Sys2Proof.Machine
end

