-- ==== Sys2Proof/Laws/Reports.lean ====
section
/-! SUPPORT. Sys2Proof/Laws/Reports.lean: two states are equal when their blocks are; and what a post, an increment and a
detection leave depends on the blocks they read alone, so an update of any other block moves past them. -/

namespace Sys2Proof.Machine

/-- Two states with equal blocks are equal. -/
theorem State.ext_blocks {s t : State} (h1 : s.ctl = t.ctl) (h2 : s.clamp = t.clamp) (h3 : s.acq = t.acq)
    (h4 : s.wheel = t.wheel) (h5 : s.est = t.est) (h6 : s.target = t.target) (h7 : s.law = t.law)
    (h8 : s.tilt = t.tilt) (h9 : s.steer = t.steer) (h10 : s.arbiter = t.arbiter) (h11 : s.faults = t.faults)
    (h12 : s.stats = t.stats) (h13 : s.notices = t.notices) (h14 : s.params = t.params) (h15 : s.line = t.line)
    (h16 : s.flight = t.flight) (h17 : s.pending = t.pending) : s = t := by
  cases s; cases t; simp_all

/-- Two in-flight records with equal lists are equal. -/
theorem Flight.ext_lists {f g : Flight} (h1 : f.snapEst = g.snapEst) (h2 : f.snapClamp = g.snapClamp)
    (h3 : f.snapTilt = g.snapTilt) (h4 : f.snapSteer = g.snapSteer) (h5 : f.snapArb = g.snapArb)
    (h6 : f.estimates = g.estimates) (h7 : f.clampEvents = g.clampEvents)
    (h8 : f.captureExpiries = g.captureExpiries) (h9 : f.notifications = g.notifications)
    (h10 : f.targetMsgs = g.targetMsgs) (h11 : f.leanCommands = g.leanCommands)
    (h12 : f.appliesSent = g.appliesSent) (h13 : f.appliesTaken = g.appliesTaken) (h14 : f.demands = g.demands)
    (h15 : f.grants = g.grants) (h16 : f.frames = g.frames) : f = g := by
  cases f; cases g; simp_all

/-- The queue after a post, from the queue alone. -/
theorem post_notices (s : State) (c : NoticeContent) :
    (post s c).notices =
      { s.notices with records := storeNotice s.notices.now s.notices.records c }.refreshAlert := rfl

/-- A post on equal queues leaves equal queues. -/
theorem post_congr {s t : State} (c : NoticeContent) (h : s.notices = t.notices) :
    (post s c).notices = (post t c).notices := by
  simp only [post_notices, h]

/-- An increment on equal counters, queues and parameters leaves equal counters and queues. -/
theorem increment_congr {s t : State} (id : CounterId) (h1 : s.stats = t.stats) (h2 : s.notices = t.notices)
    (h3 : s.params = t.params) :
    (increment s id).stats = (increment t id).stats ∧ (increment s id).notices = (increment t id).notices := by
  unfold increment; dsimp only; rw [h1, h3]
  split <;> split <;> simp [post_notices, h2]

/-- The four pieces a detection reads besides the parameters agree. -/
structure SameReports (s t : State) : Prop where
  faults : s.faults = t.faults
  stats : s.stats = t.stats
  notices : s.notices = t.notices
  params : s.params = t.params
  notifications : s.flight.notifications = t.flight.notifications

theorem SameReports.increment {s t : State} (h : SameReports s t) (id : CounterId) :
    SameReports (increment s id) (increment t id) where
  faults := by simp [h.faults]
  stats := (increment_congr id h.stats h.notices h.params).1
  notices := (increment_congr id h.stats h.notices h.params).2
  params := by simp [h.params]
  notifications := by simp [h.notifications]

theorem SameReports.post {s t : State} (h : SameReports s t) (c : NoticeContent) :
    SameReports (post s c) (post t c) where
  faults := by simp [h.faults]
  stats := by simp [h.stats]
  notices := post_congr c h.notices
  params := by simp [h.params]
  notifications := by simp [h.notifications]

theorem SameReports.setRecord {s t : State} (h : SameReports s t) (k : FaultKind) (r : FaultRecord) :
    SameReports (setRecord s k r) (setRecord t k r) where
  faults := by simp [Machine.setRecord, h.faults]
  stats := by simp [h.stats]
  notices := by simp [h.notices]
  params := by simp [h.params]
  notifications := by simp [h.notifications]

theorem SameReports.loadPointer {s t : State} (h : SameReports s t) (k : FaultKind) (r : FaultRecord) :
    SameReports (loadPointer s k r) (loadPointer t k r) where
  faults := by unfold Machine.loadPointer; rw [h.faults, h.notices]; split <;> simp [h.faults]
  stats := by simp [h.stats]
  notices := by simp [h.notices]
  params := by simp [h.params]
  notifications := by simp [h.notifications]

theorem SameReports.refreshSummary {s t : State} (h : SameReports s t) :
    SameReports (refreshSummary s) (refreshSummary t) where
  faults := by simp [Machine.refreshSummary, h.faults]
  stats := by simp [h.stats]
  notices := by simp [h.notices]
  params := by simp [h.params]
  notifications := by simp [h.notifications]

theorem SameReports.refreshAttention {s t : State} (h : SameReports s t) :
    SameReports (refreshAttention s) (refreshAttention t) where
  faults := by simp [h.faults]
  stats := by simp [h.stats]
  notices := by simp [Machine.refreshAttention, h.faults, h.notices]
  params := by simp [h.params]
  notifications := by simp [h.notifications]

theorem SameReports.notify {s t : State} (h : SameReports s t) (k : FaultKind) :
    SameReports (notify s k) (notify t k) where
  faults := by simp [h.faults]
  stats := by simp [h.stats]
  notices := by simp [h.notices]
  params := by simp [h.params]
  notifications := by simp [h.notifications]

theorem SameReports.recordDetection {s t : State} (h : SameReports s t) (k : FaultKind) (r : FaultRecord) :
    SameReports (recordDetection s k r) (recordDetection t k r) := by
  unfold Machine.recordDetection
  dsimp only
  rw [h.notices]
  have h2 := (h.setRecord k { r with status := some { severity := r.severity, time := t.notices.now } }).increment
    .faultsSet
  split <;> split
  · exact (((h2.loadPointer k r).refreshSummary).refreshAttention).notify k
  · exact ((((h2.post _).loadPointer k r).refreshSummary).refreshAttention).notify k
  · exact ((h2.loadPointer k r).refreshSummary).refreshAttention
  · exact (((h2.post _).loadPointer k r).refreshSummary).refreshAttention

theorem SameReports.repeatDetection {s t : State} (h : SameReports s t) (k : FaultKind) (v : Severity) :
    SameReports (repeatDetection s k v) (repeatDetection t k v) := by
  unfold Machine.repeatDetection
  dsimp only
  split
  · exact (h.increment _).notify k
  · exact h.increment _

/-- A detection reads the fault unit, the counters, the queue, the parameters and the notifications alone. -/
theorem SameReports.detect {s t : State} (h : SameReports s t) (k : FaultKind) :
    SameReports (detect s k) (detect t k) := by
  unfold Machine.detect
  dsimp only
  rw [h.faults]
  split
  · exact h
  · split
    · exact h.recordDetection _ _
    · exact h.repeatDetection _ _

end Sys2Proof.Machine
end

