-- ==== Sys2Proof/Laws/Chain.lean ====
section
/-! SUPPORT. Sys2Proof/Laws/Chain.lean: which blocks the events of the target generator and the control law unit leave alone. -/

namespace Sys2Proof.Machine

/-- A leaning or holding step. -/
@[simp] theorem moveToward_frame (s : State) (target rate : Int) :
    (moveToward s target rate).ctl = s.ctl ∧ (moveToward s target rate).clamp = s.clamp ∧
    (moveToward s target rate).acq = s.acq ∧ (moveToward s target rate).wheel = s.wheel ∧
    (moveToward s target rate).est = s.est ∧ (moveToward s target rate).law = s.law ∧
    (moveToward s target rate).tilt = s.tilt ∧ (moveToward s target rate).steer = s.steer ∧
    (moveToward s target rate).arbiter = s.arbiter ∧ (moveToward s target rate).faults = s.faults ∧
    (moveToward s target rate).params = s.params ∧ (moveToward s target rate).line = s.line ∧
    (moveToward s target rate).flight = s.flight ∧ (moveToward s target rate).pending = s.pending := by
  unfold moveToward; dsimp only; split <;> simp

/-- A leaning decision. -/
@[simp] theorem lean_frame (s : State) (e : Estimate) :
    (lean s e).ctl = s.ctl ∧ (lean s e).clamp = s.clamp ∧ (lean s e).acq = s.acq ∧ (lean s e).wheel = s.wheel ∧
    (lean s e).est = s.est ∧ (lean s e).law = s.law ∧ (lean s e).tilt = s.tilt ∧ (lean s e).steer = s.steer ∧
    (lean s e).arbiter = s.arbiter ∧ (lean s e).faults = s.faults ∧ (lean s e).params = s.params ∧
    (lean s e).line = s.line ∧ (lean s e).flight = s.flight ∧ (lean s e).pending = s.pending := by
  unfold lean; dsimp only; split <;> simp

/-- A following decision. -/
@[simp] theorem follow_frame (s : State) (e : Estimate) :
    (follow s e).ctl = s.ctl ∧ (follow s e).clamp = s.clamp ∧ (follow s e).acq = s.acq ∧
    (follow s e).wheel = s.wheel ∧ (follow s e).est = s.est ∧ (follow s e).law = s.law ∧
    (follow s e).tilt = s.tilt ∧ (follow s e).steer = s.steer ∧ (follow s e).arbiter = s.arbiter ∧
    (follow s e).faults = s.faults ∧ (follow s e).stats = s.stats ∧ (follow s e).notices = s.notices ∧
    (follow s e).params = s.params ∧ (follow s e).line = s.line ∧ (follow s e).flight = s.flight ∧
    (follow s e).pending = s.pending := by
  simp [follow]

/-- A decision at the target generator. -/
@[simp] theorem formTarget_frame (s : State) (d : Decision) :
    (formTarget s d).ctl = s.ctl ∧ (formTarget s d).clamp = s.clamp ∧ (formTarget s d).acq = s.acq ∧
    (formTarget s d).wheel = s.wheel ∧ (formTarget s d).est = s.est ∧ (formTarget s d).law = s.law ∧
    (formTarget s d).tilt = s.tilt ∧ (formTarget s d).steer = s.steer ∧ (formTarget s d).arbiter = s.arbiter ∧
    (formTarget s d).faults = s.faults ∧ (formTarget s d).params = s.params ∧ (formTarget s d).line = s.line ∧
    (formTarget s d).flight = s.flight ∧ (formTarget s d).pending = s.pending := by
  unfold formTarget; split <;> simp

/-- The target generator takes a decision. -/
@[simp] theorem takeDecision_frame (d : Decision) (s : State) :
    (takeDecision d s).ctl = s.ctl ∧ (takeDecision d s).clamp = s.clamp ∧ (takeDecision d s).acq = s.acq ∧
    (takeDecision d s).wheel = s.wheel ∧ (takeDecision d s).est = s.est ∧ (takeDecision d s).law = s.law ∧
    (takeDecision d s).tilt = s.tilt ∧ (takeDecision d s).steer = s.steer ∧ (takeDecision d s).arbiter = s.arbiter ∧
    (takeDecision d s).faults = s.faults ∧ (takeDecision d s).params = s.params ∧ (takeDecision d s).line = s.line ∧
    (takeDecision d s).pending = s.pending := by
  simp [takeDecision]

/-- The target generator takes a set command. -/
@[simp] theorem takeSet_frame (phi : Int) (s : State) :
    (takeSet phi s).ctl = s.ctl ∧ (takeSet phi s).clamp = s.clamp ∧ (takeSet phi s).acq = s.acq ∧
    (takeSet phi s).wheel = s.wheel ∧ (takeSet phi s).est = s.est ∧ (takeSet phi s).law = s.law ∧
    (takeSet phi s).tilt = s.tilt ∧ (takeSet phi s).steer = s.steer ∧ (takeSet phi s).arbiter = s.arbiter ∧
    (takeSet phi s).faults = s.faults ∧ (takeSet phi s).stats = s.stats ∧ (takeSet phi s).notices = s.notices ∧
    (takeSet phi s).params = s.params ∧ (takeSet phi s).line = s.line ∧ (takeSet phi s).flight = s.flight ∧
    (takeSet phi s).pending = s.pending := by
  simp [takeSet]

/-- The control law unit takes a commanded lean. -/
@[simp] theorem takeLeanCommand_frame (c : LeanCommand) (s : State) :
    (takeLeanCommand c s).ctl = s.ctl ∧ (takeLeanCommand c s).clamp = s.clamp ∧ (takeLeanCommand c s).acq = s.acq ∧
    (takeLeanCommand c s).wheel = s.wheel ∧ (takeLeanCommand c s).est = s.est ∧
    (takeLeanCommand c s).target = s.target ∧ (takeLeanCommand c s).tilt = s.tilt ∧
    (takeLeanCommand c s).steer = s.steer ∧ (takeLeanCommand c s).arbiter = s.arbiter ∧
    (takeLeanCommand c s).faults = s.faults ∧ (takeLeanCommand c s).stats = s.stats ∧
    (takeLeanCommand c s).notices = s.notices ∧ (takeLeanCommand c s).params = s.params ∧
    (takeLeanCommand c s).line = s.line ∧ (takeLeanCommand c s).pending = s.pending := by
  simp [takeLeanCommand]

/-- A gain write. -/
@[simp] theorem writeGain_frame (g : Gain) (x : Int) (s : State) :
    ((writeGain g x s).1).ctl = s.ctl ∧ ((writeGain g x s).1).clamp = s.clamp ∧ ((writeGain g x s).1).acq = s.acq ∧
    ((writeGain g x s).1).wheel = s.wheel ∧ ((writeGain g x s).1).est = s.est ∧
    ((writeGain g x s).1).target = s.target ∧ ((writeGain g x s).1).tilt = s.tilt ∧
    ((writeGain g x s).1).steer = s.steer ∧ ((writeGain g x s).1).arbiter = s.arbiter ∧
    ((writeGain g x s).1).faults = s.faults ∧ ((writeGain g x s).1).stats = s.stats ∧
    ((writeGain g x s).1).notices = s.notices ∧ ((writeGain g x s).1).params = s.params ∧
    ((writeGain g x s).1).line = s.line ∧ ((writeGain g x s).1).flight = s.flight ∧
    ((writeGain g x s).1).pending = s.pending := by
  unfold writeGain; dsimp only; split <;> simp

end Sys2Proof.Machine
end

