-- ==== Sys2Proof/Laws/Line.lean ====
section
/-! SUPPORT. Sys2Proof/Laws/Line.lean: which blocks the receive and transmit sides leave alone. -/

namespace Sys2Proof.Machine

/-- A frame abandoned. -/
@[simp] theorem abandonFrame_frame (s : State) (rx : RxState) :
    (abandonFrame s rx).ctl = s.ctl ∧ (abandonFrame s rx).clamp = s.clamp ∧ (abandonFrame s rx).acq = s.acq ∧
    (abandonFrame s rx).wheel = s.wheel ∧ (abandonFrame s rx).est = s.est ∧ (abandonFrame s rx).target = s.target ∧
    (abandonFrame s rx).law = s.law ∧ (abandonFrame s rx).tilt = s.tilt ∧ (abandonFrame s rx).steer = s.steer ∧
    (abandonFrame s rx).arbiter = s.arbiter ∧ (abandonFrame s rx).faults = s.faults ∧
    (abandonFrame s rx).params = s.params ∧ (abandonFrame s rx).flight = s.flight ∧
    (abandonFrame s rx).pending = s.pending ∧ (abandonFrame s rx).notices.now = s.notices.now := by
  simp [abandonFrame]

/-- An address character received. -/
@[simp] theorem receiveAddress_frame (s : State) (a : Byte) :
    (receiveAddress s a).ctl = s.ctl ∧ (receiveAddress s a).clamp = s.clamp ∧ (receiveAddress s a).acq = s.acq ∧
    (receiveAddress s a).wheel = s.wheel ∧ (receiveAddress s a).est = s.est ∧
    (receiveAddress s a).target = s.target ∧ (receiveAddress s a).law = s.law ∧ (receiveAddress s a).tilt = s.tilt ∧
    (receiveAddress s a).steer = s.steer ∧ (receiveAddress s a).arbiter = s.arbiter ∧
    (receiveAddress s a).faults = s.faults ∧ (receiveAddress s a).params = s.params ∧
    (receiveAddress s a).flight = s.flight ∧ (receiveAddress s a).pending = s.pending ∧
    (receiveAddress s a).notices.now = s.notices.now := by
  unfold receiveAddress; dsimp only; split <;> split <;> simp

/-- A whole frame. -/
@[simp] theorem finishFrame_frame (s : State) (bytes : List Byte) :
    (finishFrame s bytes).ctl = s.ctl ∧ (finishFrame s bytes).clamp = s.clamp ∧ (finishFrame s bytes).acq = s.acq ∧
    (finishFrame s bytes).wheel = s.wheel ∧ (finishFrame s bytes).est = s.est ∧
    (finishFrame s bytes).target = s.target ∧ (finishFrame s bytes).law = s.law ∧
    (finishFrame s bytes).tilt = s.tilt ∧ (finishFrame s bytes).steer = s.steer ∧
    (finishFrame s bytes).arbiter = s.arbiter ∧ (finishFrame s bytes).faults = s.faults ∧
    (finishFrame s bytes).params = s.params ∧ (finishFrame s bytes).pending = s.pending ∧
    (finishFrame s bytes).notices.now = s.notices.now := by
  unfold finishFrame; dsimp only; split <;> simp

/-- A data character received. -/
@[simp] theorem receiveData_frame (s : State) (b : Byte) :
    (receiveData s b).ctl = s.ctl ∧ (receiveData s b).clamp = s.clamp ∧ (receiveData s b).acq = s.acq ∧
    (receiveData s b).wheel = s.wheel ∧ (receiveData s b).est = s.est ∧ (receiveData s b).target = s.target ∧
    (receiveData s b).law = s.law ∧ (receiveData s b).tilt = s.tilt ∧ (receiveData s b).steer = s.steer ∧
    (receiveData s b).arbiter = s.arbiter ∧ (receiveData s b).faults = s.faults ∧
    (receiveData s b).params = s.params ∧ (receiveData s b).pending = s.pending ∧
    (receiveData s b).notices.now = s.notices.now := by
  unfold receiveData; dsimp only
  split
  · simp
  · simp
  · split
    · simp
    · split <;> simp

/-- A framing error received. -/
@[simp] theorem receiveFramingError_frame (s : State) :
    (receiveFramingError s).ctl = s.ctl ∧ (receiveFramingError s).clamp = s.clamp ∧
    (receiveFramingError s).acq = s.acq ∧ (receiveFramingError s).wheel = s.wheel ∧
    (receiveFramingError s).est = s.est ∧ (receiveFramingError s).target = s.target ∧
    (receiveFramingError s).law = s.law ∧ (receiveFramingError s).tilt = s.tilt ∧
    (receiveFramingError s).steer = s.steer ∧ (receiveFramingError s).arbiter = s.arbiter ∧
    (receiveFramingError s).faults = s.faults ∧ (receiveFramingError s).params = s.params ∧
    (receiveFramingError s).flight = s.flight ∧ (receiveFramingError s).pending = s.pending ∧
    (receiveFramingError s).notices.now = s.notices.now := by
  unfold receiveFramingError; split <;> simp

/-- A reply dropped. -/
@[simp] theorem dropReply_frame (s : State) (id : CounterId) :
    (dropReply s id).ctl = s.ctl ∧ (dropReply s id).clamp = s.clamp ∧ (dropReply s id).acq = s.acq ∧
    (dropReply s id).wheel = s.wheel ∧ (dropReply s id).est = s.est ∧ (dropReply s id).target = s.target ∧
    (dropReply s id).law = s.law ∧ (dropReply s id).tilt = s.tilt ∧ (dropReply s id).steer = s.steer ∧
    (dropReply s id).arbiter = s.arbiter ∧ (dropReply s id).faults = s.faults ∧ (dropReply s id).params = s.params ∧
    (dropReply s id).flight = s.flight ∧ (dropReply s id).pending = s.pending ∧
    (dropReply s id).notices.now = s.notices.now := by
  simp [dropReply]

end Sys2Proof.Machine
end

