-- ==== Sys2Proof/Laws/Regime.lean ====
section
/-! SUPPORT. Sys2Proof/Laws/Regime.lean: which blocks the transitions and the events of the regime controller leave alone. -/

namespace Sys2Proof.Machine

/-- A change of regime writes the controller, the two channels and the notice queue. -/
@[simp] theorem enterRegime_frame (s : State) (ctl : RegimeCtl) (cause : NoticeCause) :
    (enterRegime s ctl cause).clamp = s.clamp ∧ (enterRegime s ctl cause).acq = s.acq ∧
    (enterRegime s ctl cause).wheel = s.wheel ∧ (enterRegime s ctl cause).est = s.est ∧
    (enterRegime s ctl cause).target = s.target ∧ (enterRegime s ctl cause).law = s.law ∧
    (enterRegime s ctl cause).arbiter = s.arbiter ∧ (enterRegime s ctl cause).faults = s.faults ∧
    (enterRegime s ctl cause).stats = s.stats ∧ (enterRegime s ctl cause).params = s.params ∧
    (enterRegime s ctl cause).line = s.line ∧ (enterRegime s ctl cause).flight = s.flight ∧
    (enterRegime s ctl cause).pending = s.pending ∧ (enterRegime s ctl cause).ctl = ctl ∧
    (enterRegime s ctl cause).tilt = s.tilt.told (tiltEnabled ctl.regime ctl.hold) ∧
    (enterRegime s ctl cause).steer = s.steer.told (steerEnabled ctl.regime) ∧
    (enterRegime s ctl cause).notices.now = s.notices.now := by
  simp [enterRegime]

/-- The set and the apply command go into their lists. -/
@[simp] theorem giveEntryCommands_frame (s : State) :
    (giveEntryCommands s).ctl = s.ctl ∧ (giveEntryCommands s).clamp = s.clamp ∧ (giveEntryCommands s).acq = s.acq ∧
    (giveEntryCommands s).wheel = s.wheel ∧ (giveEntryCommands s).est = s.est ∧
    (giveEntryCommands s).target = s.target ∧ (giveEntryCommands s).law = s.law ∧
    (giveEntryCommands s).tilt = s.tilt ∧ (giveEntryCommands s).steer = s.steer ∧
    (giveEntryCommands s).arbiter = s.arbiter ∧ (giveEntryCommands s).faults = s.faults ∧
    (giveEntryCommands s).stats = s.stats ∧ (giveEntryCommands s).notices = s.notices ∧
    (giveEntryCommands s).params = s.params ∧ (giveEntryCommands s).line = s.line ∧
    (giveEntryCommands s).pending = s.pending := by
  simp [giveEntryCommands]

/-- Entry to RELEASING. -/
@[simp] theorem enterReleasing_frame (s : State) (cause : NoticeCause) :
    (enterReleasing s cause).acq = s.acq ∧ (enterReleasing s cause).wheel = s.wheel ∧
    (enterReleasing s cause).est = s.est ∧ (enterReleasing s cause).target = s.target ∧
    (enterReleasing s cause).law = s.law ∧ (enterReleasing s cause).arbiter = s.arbiter ∧
    (enterReleasing s cause).faults = s.faults ∧ (enterReleasing s cause).stats = s.stats ∧
    (enterReleasing s cause).params = s.params ∧ (enterReleasing s cause).line = s.line ∧
    (enterReleasing s cause).pending = s.pending ∧
    (enterReleasing s cause).ctl = { s.ctl with regime := .releasing, purpose := some .release } ∧
    (enterReleasing s cause).clamp.solenoid = s.clamp.solenoid.energize := by
  simp [enterReleasing]

/-- Entry to CAPTURING. -/
@[simp] theorem enterCapturing_frame (s : State) (cause : CaptureCause) :
    (enterCapturing s cause).clamp = s.clamp ∧ (enterCapturing s cause).acq = s.acq ∧
    (enterCapturing s cause).wheel = s.wheel ∧ (enterCapturing s cause).est = s.est ∧
    (enterCapturing s cause).target = s.target ∧ (enterCapturing s cause).law = s.law ∧
    (enterCapturing s cause).arbiter = s.arbiter ∧ (enterCapturing s cause).faults = s.faults ∧
    (enterCapturing s cause).stats = s.stats ∧ (enterCapturing s cause).params = s.params ∧
    (enterCapturing s cause).line = s.line ∧ (enterCapturing s cause).flight = s.flight ∧
    (enterCapturing s cause).pending = s.pending ∧ (enterCapturing s cause).ctl.regime = .capturing := by
  simp [enterCapturing]

/-- Entry to ENGAGING. -/
@[simp] theorem enterEngaging_frame (s : State) (forced mayHold : Bool) (cause : NoticeCause) :
    (enterEngaging s forced mayHold cause).acq = s.acq ∧ (enterEngaging s forced mayHold cause).wheel = s.wheel ∧
    (enterEngaging s forced mayHold cause).est = s.est ∧ (enterEngaging s forced mayHold cause).target = s.target ∧
    (enterEngaging s forced mayHold cause).law = s.law ∧
    (enterEngaging s forced mayHold cause).arbiter = s.arbiter ∧
    (enterEngaging s forced mayHold cause).faults = s.faults ∧
    (enterEngaging s forced mayHold cause).stats = s.stats ∧
    (enterEngaging s forced mayHold cause).params = s.params ∧
    (enterEngaging s forced mayHold cause).line = s.line ∧
    (enterEngaging s forced mayHold cause).flight = s.flight ∧
    (enterEngaging s forced mayHold cause).pending = s.pending ∧
    (enterEngaging s forced mayHold cause).ctl.regime = .engaging ∧
    (enterEngaging s forced mayHold cause).clamp.solenoid = .deEnergized := by
  simp [enterEngaging]

/-- The end of a hold. -/
@[simp] theorem endHold_frame (s : State) :
    (endHold s).clamp = s.clamp ∧ (endHold s).acq = s.acq ∧ (endHold s).wheel = s.wheel ∧ (endHold s).est = s.est ∧
    (endHold s).target = s.target ∧ (endHold s).law = s.law ∧ (endHold s).arbiter = s.arbiter ∧
    (endHold s).faults = s.faults ∧ (endHold s).stats = s.stats ∧ (endHold s).notices = s.notices ∧
    (endHold s).params = s.params ∧ (endHold s).line = s.line ∧ (endHold s).flight = s.flight ∧
    (endHold s).pending = s.pending ∧ (endHold s).ctl.regime = s.ctl.regime := by
  unfold endHold; split <;> simp

/-- A capture called off. -/
@[simp] theorem abortCapture_frame (s : State) (cause : NoticeCause) :
    (abortCapture s cause).clamp = s.clamp ∧ (abortCapture s cause).acq = s.acq ∧
    (abortCapture s cause).wheel = s.wheel ∧ (abortCapture s cause).est = s.est ∧
    (abortCapture s cause).target = s.target ∧ (abortCapture s cause).law = s.law ∧
    (abortCapture s cause).arbiter = s.arbiter ∧ (abortCapture s cause).faults = s.faults ∧
    (abortCapture s cause).params = s.params ∧ (abortCapture s cause).line = s.line ∧
    (abortCapture s cause).flight = s.flight ∧ (abortCapture s cause).pending = s.pending ∧
    (abortCapture s cause).ctl = { s.ctl with regime := .active, cause := none, capTimer := .stopped } := by
  simp [abortCapture]

/-- A loss of measurement. -/
@[simp] theorem loseMeasurement_frame (s : State) :
    (loseMeasurement s).acq = s.acq ∧ (loseMeasurement s).wheel = s.wheel ∧ (loseMeasurement s).est = s.est ∧
    (loseMeasurement s).target = s.target ∧ (loseMeasurement s).law = s.law ∧
    (loseMeasurement s).arbiter = s.arbiter ∧ (loseMeasurement s).faults = s.faults ∧
    (loseMeasurement s).stats = s.stats ∧ (loseMeasurement s).params = s.params ∧
    (loseMeasurement s).line = s.line ∧ (loseMeasurement s).flight = s.flight ∧
    (loseMeasurement s).pending = s.pending := by
  simp [loseMeasurement]

/-- An estimate in LOCKED. -/
@[simp] theorem estimateInLocked_frame (s : State) :
    (estimateInLocked s).acq = s.acq ∧ (estimateInLocked s).wheel = s.wheel ∧ (estimateInLocked s).est = s.est ∧
    (estimateInLocked s).target = s.target ∧ (estimateInLocked s).law = s.law ∧
    (estimateInLocked s).arbiter = s.arbiter ∧ (estimateInLocked s).faults = s.faults ∧
    (estimateInLocked s).stats = s.stats ∧ (estimateInLocked s).params = s.params ∧
    (estimateInLocked s).line = s.line ∧ (estimateInLocked s).pending = s.pending := by
  unfold estimateInLocked; split <;> simp

/-- An estimate in ACTIVE. -/
@[simp] theorem estimateInActive_frame (e : Estimate) (s : State) :
    (estimateInActive e s).clamp = s.clamp ∧ (estimateInActive e s).acq = s.acq ∧
    (estimateInActive e s).wheel = s.wheel ∧ (estimateInActive e s).est = s.est ∧
    (estimateInActive e s).target = s.target ∧ (estimateInActive e s).law = s.law ∧
    (estimateInActive e s).arbiter = s.arbiter ∧ (estimateInActive e s).faults = s.faults ∧
    (estimateInActive e s).stats = s.stats ∧ (estimateInActive e s).params = s.params ∧
    (estimateInActive e s).line = s.line ∧ (estimateInActive e s).flight = s.flight ∧
    (estimateInActive e s).pending = s.pending := by
  unfold estimateInActive; split
  · simp
  · split <;> simp

/-- An estimate in CAPTURING. -/
@[simp] theorem estimateInCapturing_frame (e : Estimate) (s : State) :
    (estimateInCapturing e s).acq = s.acq ∧ (estimateInCapturing e s).wheel = s.wheel ∧
    (estimateInCapturing e s).est = s.est ∧ (estimateInCapturing e s).target = s.target ∧
    (estimateInCapturing e s).law = s.law ∧ (estimateInCapturing e s).arbiter = s.arbiter ∧
    (estimateInCapturing e s).faults = s.faults ∧ (estimateInCapturing e s).params = s.params ∧
    (estimateInCapturing e s).line = s.line ∧ (estimateInCapturing e s).flight = s.flight ∧
    (estimateInCapturing e s).pending = s.pending := by
  unfold estimateInCapturing; split
  · simp
  · split <;> simp

/-- An estimate in ENGAGING or FAILED. -/
@[simp] theorem estimateInHold_frame (e : Estimate) (s : State) :
    (estimateInHold e s).clamp = s.clamp ∧ (estimateInHold e s).acq = s.acq ∧ (estimateInHold e s).wheel = s.wheel ∧
    (estimateInHold e s).est = s.est ∧ (estimateInHold e s).target = s.target ∧ (estimateInHold e s).law = s.law ∧
    (estimateInHold e s).arbiter = s.arbiter ∧ (estimateInHold e s).faults = s.faults ∧
    (estimateInHold e s).stats = s.stats ∧ (estimateInHold e s).notices = s.notices ∧
    (estimateInHold e s).params = s.params ∧ (estimateInHold e s).line = s.line ∧
    (estimateInHold e s).flight = s.flight ∧ (estimateInHold e s).pending = s.pending := by
  unfold estimateInHold; split <;> simp

/-- The checks of an estimate. -/
@[simp] theorem estimateChecks_frame (e : Estimate) (s : State) :
    (estimateChecks e s).acq = s.acq ∧ (estimateChecks e s).wheel = s.wheel ∧ (estimateChecks e s).est = s.est ∧
    (estimateChecks e s).target = s.target ∧ (estimateChecks e s).law = s.law ∧
    (estimateChecks e s).arbiter = s.arbiter ∧ (estimateChecks e s).faults = s.faults ∧
    (estimateChecks e s).params = s.params ∧ (estimateChecks e s).line = s.line ∧
    (estimateChecks e s).pending = s.pending := by
  unfold estimateChecks; split <;> (try split) <;> simp

/-- A decision goes into its list. -/
@[simp] theorem publishDecision_frame (e : Estimate) (s : State) :
    (publishDecision e s).ctl = s.ctl ∧ (publishDecision e s).clamp = s.clamp ∧ (publishDecision e s).acq = s.acq ∧
    (publishDecision e s).wheel = s.wheel ∧ (publishDecision e s).est = s.est ∧
    (publishDecision e s).target = s.target ∧ (publishDecision e s).law = s.law ∧
    (publishDecision e s).tilt = s.tilt ∧ (publishDecision e s).steer = s.steer ∧
    (publishDecision e s).arbiter = s.arbiter ∧ (publishDecision e s).faults = s.faults ∧
    (publishDecision e s).stats = s.stats ∧ (publishDecision e s).notices = s.notices ∧
    (publishDecision e s).params = s.params ∧ (publishDecision e s).line = s.line ∧
    (publishDecision e s).pending = s.pending := by
  simp [publishDecision]

/-- The regime controller takes an estimate. -/
@[simp] theorem takeEstimate_frame (e : Estimate) (s : State) :
    (takeEstimate e s).acq = s.acq ∧ (takeEstimate e s).wheel = s.wheel ∧ (takeEstimate e s).est = s.est ∧
    (takeEstimate e s).target = s.target ∧ (takeEstimate e s).law = s.law ∧ (takeEstimate e s).arbiter = s.arbiter ∧
    (takeEstimate e s).faults = s.faults ∧ (takeEstimate e s).params = s.params ∧ (takeEstimate e s).line = s.line ∧
    (takeEstimate e s).pending = s.pending := by
  simp [takeEstimate]

/-- A release confirmed. -/
@[simp] theorem confirmRelease_frame (s : State) :
    (confirmRelease s).acq = s.acq ∧ (confirmRelease s).wheel = s.wheel ∧ (confirmRelease s).est = s.est ∧
    (confirmRelease s).target = s.target ∧ (confirmRelease s).law = s.law ∧ (confirmRelease s).arbiter = s.arbiter ∧
    (confirmRelease s).faults = s.faults ∧ (confirmRelease s).params = s.params ∧ (confirmRelease s).line = s.line ∧
    (confirmRelease s).flight = s.flight ∧ (confirmRelease s).pending = s.pending := by
  simp [confirmRelease]

/-- An engagement confirmed. -/
@[simp] theorem confirmEngagement_frame (s : State) :
    (confirmEngagement s).acq = s.acq ∧ (confirmEngagement s).wheel = s.wheel ∧ (confirmEngagement s).est = s.est ∧
    (confirmEngagement s).target = s.target ∧ (confirmEngagement s).law = s.law ∧
    (confirmEngagement s).arbiter = s.arbiter ∧ (confirmEngagement s).faults = s.faults ∧
    (confirmEngagement s).params = s.params ∧ (confirmEngagement s).line = s.line ∧
    (confirmEngagement s).flight = s.flight ∧ (confirmEngagement s).pending = s.pending := by
  simp [confirmEngagement]

/-- A class change. -/
@[simp] theorem takeClassChange_frame (cls : StrokeClass) (s : State) :
    (takeClassChange cls s).acq = s.acq ∧ (takeClassChange cls s).wheel = s.wheel ∧
    (takeClassChange cls s).est = s.est ∧ (takeClassChange cls s).target = s.target ∧
    (takeClassChange cls s).law = s.law ∧ (takeClassChange cls s).arbiter = s.arbiter ∧
    (takeClassChange cls s).faults = s.faults ∧ (takeClassChange cls s).params = s.params ∧
    (takeClassChange cls s).line = s.line ∧ (takeClassChange cls s).flight = s.flight ∧
    (takeClassChange cls s).pending = s.pending := by
  unfold takeClassChange; split <;> simp

/-- A release that timed out. -/
@[simp] theorem releaseTimedOut_frame (s : State) :
    (releaseTimedOut s).acq = s.acq ∧ (releaseTimedOut s).wheel = s.wheel ∧ (releaseTimedOut s).est = s.est ∧
    (releaseTimedOut s).target = s.target ∧ (releaseTimedOut s).law = s.law ∧
    (releaseTimedOut s).arbiter = s.arbiter ∧ (releaseTimedOut s).params = s.params ∧
    (releaseTimedOut s).line = s.line ∧ (releaseTimedOut s).pending = s.pending ∧
    (releaseTimedOut s).flight.snapEst = s.flight.snapEst ∧
    (releaseTimedOut s).flight.snapClamp = s.flight.snapClamp ∧
    (releaseTimedOut s).flight.snapTilt = s.flight.snapTilt ∧
    (releaseTimedOut s).flight.snapSteer = s.flight.snapSteer ∧
    (releaseTimedOut s).flight.snapArb = s.flight.snapArb ∧
    (releaseTimedOut s).flight.estimates = s.flight.estimates ∧
    (releaseTimedOut s).flight.clampEvents = s.flight.clampEvents ∧
    (releaseTimedOut s).flight.captureExpiries = s.flight.captureExpiries ∧
    (releaseTimedOut s).flight.targetMsgs = s.flight.targetMsgs ∧
    (releaseTimedOut s).flight.leanCommands = s.flight.leanCommands ∧
    (releaseTimedOut s).flight.appliesSent = s.flight.appliesSent ∧
    (releaseTimedOut s).flight.appliesTaken = s.flight.appliesTaken ∧
    (releaseTimedOut s).flight.demands = s.flight.demands ∧ (releaseTimedOut s).flight.grants = s.flight.grants ∧
    (releaseTimedOut s).flight.frames = s.flight.frames := by
  simp [releaseTimedOut]

/-- An engagement that timed out. -/
@[simp] theorem engageTimedOut_frame (s : State) :
    (engageTimedOut s).clamp = s.clamp ∧ (engageTimedOut s).acq = s.acq ∧ (engageTimedOut s).wheel = s.wheel ∧
    (engageTimedOut s).est = s.est ∧ (engageTimedOut s).target = s.target ∧ (engageTimedOut s).law = s.law ∧
    (engageTimedOut s).arbiter = s.arbiter ∧ (engageTimedOut s).params = s.params ∧
    (engageTimedOut s).line = s.line ∧ (engageTimedOut s).pending = s.pending ∧
    (engageTimedOut s).flight.snapEst = s.flight.snapEst ∧
    (engageTimedOut s).flight.snapClamp = s.flight.snapClamp ∧
    (engageTimedOut s).flight.snapTilt = s.flight.snapTilt ∧
    (engageTimedOut s).flight.snapSteer = s.flight.snapSteer ∧
    (engageTimedOut s).flight.snapArb = s.flight.snapArb ∧
    (engageTimedOut s).flight.estimates = s.flight.estimates ∧
    (engageTimedOut s).flight.clampEvents = s.flight.clampEvents ∧
    (engageTimedOut s).flight.captureExpiries = s.flight.captureExpiries ∧
    (engageTimedOut s).flight.targetMsgs = s.flight.targetMsgs ∧
    (engageTimedOut s).flight.leanCommands = s.flight.leanCommands ∧
    (engageTimedOut s).flight.appliesSent = s.flight.appliesSent ∧
    (engageTimedOut s).flight.appliesTaken = s.flight.appliesTaken ∧
    (engageTimedOut s).flight.demands = s.flight.demands ∧ (engageTimedOut s).flight.grants = s.flight.grants ∧
    (engageTimedOut s).flight.frames = s.flight.frames := by
  simp [engageTimedOut]

/-- A lock timer expiry. -/
@[simp] theorem takeLockExpiry_frame (run : RunNumber) (s : State) :
    (takeLockExpiry run s).acq = s.acq ∧ (takeLockExpiry run s).wheel = s.wheel ∧
    (takeLockExpiry run s).est = s.est ∧ (takeLockExpiry run s).target = s.target ∧
    (takeLockExpiry run s).law = s.law ∧ (takeLockExpiry run s).arbiter = s.arbiter ∧
    (takeLockExpiry run s).params = s.params ∧ (takeLockExpiry run s).line = s.line ∧
    (takeLockExpiry run s).pending = s.pending ∧ (takeLockExpiry run s).flight.snapEst = s.flight.snapEst ∧
    (takeLockExpiry run s).flight.snapClamp = s.flight.snapClamp ∧
    (takeLockExpiry run s).flight.snapTilt = s.flight.snapTilt ∧
    (takeLockExpiry run s).flight.snapSteer = s.flight.snapSteer ∧
    (takeLockExpiry run s).flight.snapArb = s.flight.snapArb ∧
    (takeLockExpiry run s).flight.estimates = s.flight.estimates ∧
    (takeLockExpiry run s).flight.clampEvents = s.flight.clampEvents ∧
    (takeLockExpiry run s).flight.captureExpiries = s.flight.captureExpiries ∧
    (takeLockExpiry run s).flight.targetMsgs = s.flight.targetMsgs ∧
    (takeLockExpiry run s).flight.leanCommands = s.flight.leanCommands ∧
    (takeLockExpiry run s).flight.appliesSent = s.flight.appliesSent ∧
    (takeLockExpiry run s).flight.appliesTaken = s.flight.appliesTaken ∧
    (takeLockExpiry run s).flight.demands = s.flight.demands ∧
    (takeLockExpiry run s).flight.grants = s.flight.grants ∧ (takeLockExpiry run s).flight.frames = s.flight.frames := by
  unfold takeLockExpiry; split
  · split <;> simp
  · simp

/-- A capture timer expiry. -/
@[simp] theorem takeCaptureExpiry_frame (run : RunNumber) (s : State) :
    (takeCaptureExpiry run s).acq = s.acq ∧ (takeCaptureExpiry run s).wheel = s.wheel ∧
    (takeCaptureExpiry run s).est = s.est ∧ (takeCaptureExpiry run s).target = s.target ∧
    (takeCaptureExpiry run s).law = s.law ∧ (takeCaptureExpiry run s).arbiter = s.arbiter ∧
    (takeCaptureExpiry run s).params = s.params ∧ (takeCaptureExpiry run s).line = s.line ∧
    (takeCaptureExpiry run s).pending = s.pending ∧ (takeCaptureExpiry run s).flight.snapEst = s.flight.snapEst ∧
    (takeCaptureExpiry run s).flight.snapClamp = s.flight.snapClamp ∧
    (takeCaptureExpiry run s).flight.snapTilt = s.flight.snapTilt ∧
    (takeCaptureExpiry run s).flight.snapSteer = s.flight.snapSteer ∧
    (takeCaptureExpiry run s).flight.snapArb = s.flight.snapArb ∧
    (takeCaptureExpiry run s).flight.estimates = s.flight.estimates ∧
    (takeCaptureExpiry run s).flight.clampEvents = s.flight.clampEvents ∧
    (takeCaptureExpiry run s).flight.captureExpiries = s.flight.captureExpiries ∧
    (takeCaptureExpiry run s).flight.targetMsgs = s.flight.targetMsgs ∧
    (takeCaptureExpiry run s).flight.leanCommands = s.flight.leanCommands ∧
    (takeCaptureExpiry run s).flight.appliesSent = s.flight.appliesSent ∧
    (takeCaptureExpiry run s).flight.appliesTaken = s.flight.appliesTaken ∧
    (takeCaptureExpiry run s).flight.demands = s.flight.demands ∧
    (takeCaptureExpiry run s).flight.grants = s.flight.grants ∧
    (takeCaptureExpiry run s).flight.frames = s.flight.frames := by
  unfold takeCaptureExpiry; split
  · split
    · split <;> simp
    · simp
  · simp

/-- A capture that becomes forced. -/
@[simp] theorem forceCapture_frame (s : State) :
    (forceCapture s).clamp = s.clamp ∧ (forceCapture s).acq = s.acq ∧ (forceCapture s).wheel = s.wheel ∧
    (forceCapture s).est = s.est ∧ (forceCapture s).target = s.target ∧ (forceCapture s).law = s.law ∧
    (forceCapture s).tilt = s.tilt ∧ (forceCapture s).steer = s.steer ∧ (forceCapture s).arbiter = s.arbiter ∧
    (forceCapture s).faults = s.faults ∧ (forceCapture s).stats = s.stats ∧ (forceCapture s).notices = s.notices ∧
    (forceCapture s).params = s.params ∧ (forceCapture s).line = s.line ∧ (forceCapture s).flight = s.flight ∧
    (forceCapture s).pending = s.pending := by
  simp [forceCapture]

/-- A major-fault notification. -/
@[simp] theorem takeNotification_frame (k : FaultKind) (s : State) :
    (takeNotification k s).acq = s.acq ∧ (takeNotification k s).wheel = s.wheel ∧
    (takeNotification k s).est = s.est ∧ (takeNotification k s).target = s.target ∧
    (takeNotification k s).law = s.law ∧ (takeNotification k s).arbiter = s.arbiter ∧
    (takeNotification k s).faults = s.faults ∧ (takeNotification k s).stats = s.stats ∧
    (takeNotification k s).params = s.params ∧ (takeNotification k s).line = s.line ∧
    (takeNotification k s).flight = s.flight ∧ (takeNotification k s).pending = s.pending := by
  unfold takeNotification; dsimp only
  split <;> (try split) <;> (try split) <;> simp

/-- What the request leaves alone. -/
@[simp] theorem takeArm_frame (s : State) :
    ((takeArm s).state).clamp = s.clamp ∧ ((takeArm s).state).acq = s.acq ∧ ((takeArm s).state).wheel = s.wheel ∧
    ((takeArm s).state).est = s.est ∧ ((takeArm s).state).target = s.target ∧ ((takeArm s).state).law = s.law ∧
    ((takeArm s).state).arbiter = s.arbiter ∧ ((takeArm s).state).faults = s.faults ∧
    ((takeArm s).state).stats = s.stats ∧ ((takeArm s).state).params = s.params ∧
    ((takeArm s).state).line = s.line ∧ ((takeArm s).state).flight = s.flight ∧
    ((takeArm s).state).pending = s.pending := by
  unfold takeArm
  (repeat' split) <;> simp [commandOk, refuse]

/-- What the request leaves alone. -/
@[simp] theorem takeDisarm_frame (s : State) :
    ((takeDisarm s).state).clamp = s.clamp ∧ ((takeDisarm s).state).acq = s.acq ∧
    ((takeDisarm s).state).wheel = s.wheel ∧ ((takeDisarm s).state).est = s.est ∧
    ((takeDisarm s).state).target = s.target ∧ ((takeDisarm s).state).law = s.law ∧
    ((takeDisarm s).state).arbiter = s.arbiter ∧ ((takeDisarm s).state).faults = s.faults ∧
    ((takeDisarm s).state).stats = s.stats ∧ ((takeDisarm s).state).params = s.params ∧
    ((takeDisarm s).state).line = s.line ∧ ((takeDisarm s).state).flight = s.flight ∧
    ((takeDisarm s).state).pending = s.pending := by
  unfold takeDisarm
  (repeat' split) <;> simp [commandOk, refuse]

/-- What the request leaves alone. -/
@[simp] theorem releaseFromLocked_frame (s : State) :
    ((releaseFromLocked s).state).acq = s.acq ∧ ((releaseFromLocked s).state).wheel = s.wheel ∧
    ((releaseFromLocked s).state).est = s.est ∧ ((releaseFromLocked s).state).target = s.target ∧
    ((releaseFromLocked s).state).law = s.law ∧ ((releaseFromLocked s).state).arbiter = s.arbiter ∧
    ((releaseFromLocked s).state).faults = s.faults ∧ ((releaseFromLocked s).state).stats = s.stats ∧
    ((releaseFromLocked s).state).params = s.params ∧ ((releaseFromLocked s).state).line = s.line ∧
    ((releaseFromLocked s).state).pending = s.pending := by
  unfold releaseFromLocked
  (repeat' split) <;> simp [commandOk, refuse]

/-- What the request leaves alone. -/
@[simp] theorem releaseFromCapturing_frame (s : State) :
    ((releaseFromCapturing s).state).clamp = s.clamp ∧ ((releaseFromCapturing s).state).acq = s.acq ∧
    ((releaseFromCapturing s).state).wheel = s.wheel ∧ ((releaseFromCapturing s).state).est = s.est ∧
    ((releaseFromCapturing s).state).target = s.target ∧ ((releaseFromCapturing s).state).law = s.law ∧
    ((releaseFromCapturing s).state).arbiter = s.arbiter ∧ ((releaseFromCapturing s).state).faults = s.faults ∧
    ((releaseFromCapturing s).state).params = s.params ∧ ((releaseFromCapturing s).state).line = s.line ∧
    ((releaseFromCapturing s).state).flight = s.flight ∧ ((releaseFromCapturing s).state).pending = s.pending := by
  unfold releaseFromCapturing
  (repeat' split) <;> simp [commandOk, refuse]

/-- What the request leaves alone. -/
@[simp] theorem takeRelease_frame (s : State) :
    ((takeRelease s).state).acq = s.acq ∧ ((takeRelease s).state).wheel = s.wheel ∧
    ((takeRelease s).state).est = s.est ∧ ((takeRelease s).state).target = s.target ∧
    ((takeRelease s).state).law = s.law ∧ ((takeRelease s).state).arbiter = s.arbiter ∧
    ((takeRelease s).state).faults = s.faults ∧ ((takeRelease s).state).params = s.params ∧
    ((takeRelease s).state).line = s.line ∧ ((takeRelease s).state).pending = s.pending := by
  unfold takeRelease
  (repeat' split) <;> simp [commandOk, refuse]

/-- What the request leaves alone. -/
@[simp] theorem takeLock_frame (s : State) :
    ((takeLock s).state).acq = s.acq ∧ ((takeLock s).state).wheel = s.wheel ∧ ((takeLock s).state).est = s.est ∧
    ((takeLock s).state).target = s.target ∧ ((takeLock s).state).law = s.law ∧
    ((takeLock s).state).arbiter = s.arbiter ∧ ((takeLock s).state).faults = s.faults ∧
    ((takeLock s).state).stats = s.stats ∧ ((takeLock s).state).params = s.params ∧
    ((takeLock s).state).line = s.line ∧ ((takeLock s).state).flight = s.flight ∧
    ((takeLock s).state).pending = s.pending := by
  unfold takeLock
  (repeat' split) <;> simp [commandOk, refuse]

end Sys2Proof.Machine
end

