-- ==== Sys2Proof/Laws/Requests.lean ====
section
/-! SUPPORT. Sys2Proof/Laws/Requests.lean: how a request row is taken, and which blocks the owners leave alone. -/

namespace Sys2Proof.Machine

/-- What holds of the state with no frame of the row, and of every answer, holds after the row. -/
theorem takeRequest_ind (P : State → Prop) (row : RequestRow) (handle : Frame → State → State) (s : State) (h0 : P s)
    (h1 : ∀ f rest, s.flight.frames = f :: rest → f.row = row →
      P (handle f (s.setFlight { s.flight with frames := rest }))) : P (takeRequest row handle s) := by
  unfold takeRequest
  split
  · exact h0
  · split
    · exact h1 _ _ (by assumption) (by assumption)
    · exact h0

/-- What holds of a dropped request, of a malformed one and of every owner's answer holds after `serve`. -/
theorem serve_ind {α : Type} (P : State → Prop) (parse : List Byte → Option α) (owner : α → State → Answer) (f : Frame)
    (s : State) (h0 : P s) (h1 : P (putReply s f .malformed []))
    (h2 : ∀ a, parse f.payload = some a →
      P (putReply (owner a s).state f (owner a s).status (owner a s).payload)) : P (serve parse owner f s) := by
  unfold serve
  split
  · exact h0
  · split
    · exact h1
    · exact h2 _ (by assumption)

/-- FAULT_CONFIG. -/
@[simp] theorem takeFaultConfig_frame (k sev d r : Byte) (s : State) :
    ((takeFaultConfig k sev d r s).state).ctl = s.ctl ∧ ((takeFaultConfig k sev d r s).state).clamp = s.clamp ∧
    ((takeFaultConfig k sev d r s).state).acq = s.acq ∧ ((takeFaultConfig k sev d r s).state).wheel = s.wheel ∧
    ((takeFaultConfig k sev d r s).state).est = s.est ∧ ((takeFaultConfig k sev d r s).state).target = s.target ∧
    ((takeFaultConfig k sev d r s).state).law = s.law ∧ ((takeFaultConfig k sev d r s).state).tilt = s.tilt ∧
    ((takeFaultConfig k sev d r s).state).steer = s.steer ∧
    ((takeFaultConfig k sev d r s).state).arbiter = s.arbiter ∧
    ((takeFaultConfig k sev d r s).state).stats = s.stats ∧
    ((takeFaultConfig k sev d r s).state).params = s.params ∧ ((takeFaultConfig k sev d r s).state).line = s.line ∧
    ((takeFaultConfig k sev d r s).state).flight = s.flight ∧
    ((takeFaultConfig k sev d r s).state).pending = s.pending ∧
    ((takeFaultConfig k sev d r s).state).notices.now = s.notices.now := by
  unfold takeFaultConfig; split
  · simp [refuse]
  · split <;> simp [refuse]

/-- A clearing handed to its channel. -/
@[simp] theorem handClearing_frame (k : FaultKind) (s : State) :
    (handClearing k s).ctl = s.ctl ∧ (handClearing k s).clamp = s.clamp ∧ (handClearing k s).acq = s.acq ∧
    (handClearing k s).wheel = s.wheel ∧ (handClearing k s).est = s.est ∧ (handClearing k s).target = s.target ∧
    (handClearing k s).law = s.law ∧ (handClearing k s).arbiter = s.arbiter ∧ (handClearing k s).faults = s.faults ∧
    (handClearing k s).stats = s.stats ∧ (handClearing k s).notices = s.notices ∧
    (handClearing k s).params = s.params ∧ (handClearing k s).line = s.line ∧ (handClearing k s).flight = s.flight ∧
    (handClearing k s).pending = s.pending := by
  unfold handClearing; split <;> simp

/-- One kind cleared. -/
@[simp] theorem clearKind_frame (k : FaultKind) (s : State) :
    (clearKind s k).ctl = s.ctl ∧ (clearKind s k).clamp = s.clamp ∧ (clearKind s k).acq = s.acq ∧
    (clearKind s k).wheel = s.wheel ∧ (clearKind s k).est = s.est ∧ (clearKind s k).target = s.target ∧
    (clearKind s k).law = s.law ∧ (clearKind s k).arbiter = s.arbiter ∧ (clearKind s k).stats = s.stats ∧
    (clearKind s k).notices = s.notices ∧ (clearKind s k).params = s.params ∧ (clearKind s k).line = s.line ∧
    (clearKind s k).flight = s.flight ∧ (clearKind s k).pending = s.pending := by
  unfold clearKind; dsimp only; split <;> simp

/-- Kinds cleared one after another. -/
@[simp] theorem foldl_clearKind_frame (ks : List FaultKind) (s : State) :
    (ks.foldl clearKind s).ctl = s.ctl ∧ (ks.foldl clearKind s).clamp = s.clamp ∧
    (ks.foldl clearKind s).acq = s.acq ∧ (ks.foldl clearKind s).wheel = s.wheel ∧
    (ks.foldl clearKind s).est = s.est ∧ (ks.foldl clearKind s).target = s.target ∧
    (ks.foldl clearKind s).law = s.law ∧ (ks.foldl clearKind s).arbiter = s.arbiter ∧
    (ks.foldl clearKind s).stats = s.stats ∧ (ks.foldl clearKind s).notices = s.notices ∧
    (ks.foldl clearKind s).params = s.params ∧ (ks.foldl clearKind s).line = s.line ∧
    (ks.foldl clearKind s).flight = s.flight ∧ (ks.foldl clearKind s).pending = s.pending := by
  induction ks generalizing s with
  | nil => simp
  | cons k ks ih => simp [ih (clearKind s k)]

/-- FAULT_CLEAR. -/
@[simp] theorem takeFaultClear_frame (b : BitVec 16) (s : State) :
    ((takeFaultClear b s).state).ctl = s.ctl ∧ ((takeFaultClear b s).state).clamp = s.clamp ∧
    ((takeFaultClear b s).state).acq = s.acq ∧ ((takeFaultClear b s).state).wheel = s.wheel ∧
    ((takeFaultClear b s).state).est = s.est ∧ ((takeFaultClear b s).state).target = s.target ∧
    ((takeFaultClear b s).state).law = s.law ∧ ((takeFaultClear b s).state).arbiter = s.arbiter ∧
    ((takeFaultClear b s).state).stats = s.stats ∧ ((takeFaultClear b s).state).params = s.params ∧
    ((takeFaultClear b s).state).line = s.line ∧ ((takeFaultClear b s).state).flight = s.flight ∧
    ((takeFaultClear b s).state).pending = s.pending ∧ ((takeFaultClear b s).state).notices.now = s.notices.now := by
  unfold takeFaultClear; split <;> simp [refuse]

/-- FAULT_READ changes nothing. -/
@[simp] theorem takeFaultRead_frame (b : Byte) (s : State) :
    ((takeFaultRead b s).state).ctl = s.ctl ∧ ((takeFaultRead b s).state).clamp = s.clamp ∧
    ((takeFaultRead b s).state).acq = s.acq ∧ ((takeFaultRead b s).state).wheel = s.wheel ∧
    ((takeFaultRead b s).state).est = s.est ∧ ((takeFaultRead b s).state).target = s.target ∧
    ((takeFaultRead b s).state).law = s.law ∧ ((takeFaultRead b s).state).tilt = s.tilt ∧
    ((takeFaultRead b s).state).steer = s.steer ∧ ((takeFaultRead b s).state).arbiter = s.arbiter ∧
    ((takeFaultRead b s).state).faults = s.faults ∧ ((takeFaultRead b s).state).stats = s.stats ∧
    ((takeFaultRead b s).state).notices = s.notices ∧ ((takeFaultRead b s).state).params = s.params ∧
    ((takeFaultRead b s).state).line = s.line ∧ ((takeFaultRead b s).state).flight = s.flight ∧
    ((takeFaultRead b s).state).pending = s.pending := by
  unfold takeFaultRead; split
  · simp
  · split <;> simp [refuse]

/-- COUNTER_READ. -/
@[simp] theorem takeCounterRead_frame (a b c : Byte) (s : State) :
    ((takeCounterRead a b c s).state).ctl = s.ctl ∧ ((takeCounterRead a b c s).state).clamp = s.clamp ∧
    ((takeCounterRead a b c s).state).acq = s.acq ∧ ((takeCounterRead a b c s).state).wheel = s.wheel ∧
    ((takeCounterRead a b c s).state).est = s.est ∧ ((takeCounterRead a b c s).state).target = s.target ∧
    ((takeCounterRead a b c s).state).law = s.law ∧ ((takeCounterRead a b c s).state).tilt = s.tilt ∧
    ((takeCounterRead a b c s).state).steer = s.steer ∧ ((takeCounterRead a b c s).state).arbiter = s.arbiter ∧
    ((takeCounterRead a b c s).state).faults = s.faults ∧ ((takeCounterRead a b c s).state).notices = s.notices ∧
    ((takeCounterRead a b c s).state).params = s.params ∧ ((takeCounterRead a b c s).state).line = s.line ∧
    ((takeCounterRead a b c s).state).flight = s.flight ∧ ((takeCounterRead a b c s).state).pending = s.pending := by
  unfold takeCounterRead; split
  · simp [refuse]
  · split <;> simp [refuse]

/-- EVENT_READ. -/
@[simp] theorem takeEventRead_frame (b : Byte) (s : State) :
    ((takeEventRead b s).state).ctl = s.ctl ∧ ((takeEventRead b s).state).clamp = s.clamp ∧
    ((takeEventRead b s).state).acq = s.acq ∧ ((takeEventRead b s).state).wheel = s.wheel ∧
    ((takeEventRead b s).state).est = s.est ∧ ((takeEventRead b s).state).target = s.target ∧
    ((takeEventRead b s).state).law = s.law ∧ ((takeEventRead b s).state).tilt = s.tilt ∧
    ((takeEventRead b s).state).steer = s.steer ∧ ((takeEventRead b s).state).arbiter = s.arbiter ∧
    ((takeEventRead b s).state).faults = s.faults ∧ ((takeEventRead b s).state).stats = s.stats ∧
    ((takeEventRead b s).state).params = s.params ∧ ((takeEventRead b s).state).line = s.line ∧
    ((takeEventRead b s).state).flight = s.flight ∧ ((takeEventRead b s).state).pending = s.pending ∧
    ((takeEventRead b s).state).notices.now = s.notices.now := by
  simp [takeEventRead, NoticeQueue.refreshAlert]

/-- SAMPLE_READ. -/
@[simp] theorem takeSampleRead_frame (a b : Byte) (s : State) :
    ((takeSampleRead a b s).state).ctl = s.ctl ∧ ((takeSampleRead a b s).state).clamp = s.clamp ∧
    ((takeSampleRead a b s).state).wheel = s.wheel ∧ ((takeSampleRead a b s).state).est = s.est ∧
    ((takeSampleRead a b s).state).target = s.target ∧ ((takeSampleRead a b s).state).law = s.law ∧
    ((takeSampleRead a b s).state).tilt = s.tilt ∧ ((takeSampleRead a b s).state).steer = s.steer ∧
    ((takeSampleRead a b s).state).arbiter = s.arbiter ∧ ((takeSampleRead a b s).state).faults = s.faults ∧
    ((takeSampleRead a b s).state).stats = s.stats ∧ ((takeSampleRead a b s).state).notices = s.notices ∧
    ((takeSampleRead a b s).state).params = s.params ∧ ((takeSampleRead a b s).state).line = s.line ∧
    ((takeSampleRead a b s).state).flight = s.flight ∧ ((takeSampleRead a b s).state).pending = s.pending := by
  unfold takeSampleRead; split
  · simp [refuse]
  · split <;> simp [refuse]

/-- ACQ_CONFIG. -/
@[simp] theorem takeAcqConfig_frame (a b : Byte) (s : State) :
    ((takeAcqConfig a b s).state).ctl = s.ctl ∧ ((takeAcqConfig a b s).state).clamp = s.clamp ∧
    ((takeAcqConfig a b s).state).wheel = s.wheel ∧ ((takeAcqConfig a b s).state).est = s.est ∧
    ((takeAcqConfig a b s).state).target = s.target ∧ ((takeAcqConfig a b s).state).law = s.law ∧
    ((takeAcqConfig a b s).state).tilt = s.tilt ∧ ((takeAcqConfig a b s).state).steer = s.steer ∧
    ((takeAcqConfig a b s).state).arbiter = s.arbiter ∧ ((takeAcqConfig a b s).state).faults = s.faults ∧
    ((takeAcqConfig a b s).state).stats = s.stats ∧ ((takeAcqConfig a b s).state).notices = s.notices ∧
    ((takeAcqConfig a b s).state).params = s.params ∧ ((takeAcqConfig a b s).state).line = s.line ∧
    ((takeAcqConfig a b s).state).flight = s.flight ∧ ((takeAcqConfig a b s).state).pending = s.pending := by
  unfold takeAcqConfig; (repeat' split) <;> simp [refuse, configureAcq]

/-- ACQ_SINGLE. -/
@[simp] theorem takeAcqSingle_frame (s : State) :
    ((takeAcqSingle s).state).ctl = s.ctl ∧ ((takeAcqSingle s).state).clamp = s.clamp ∧
    ((takeAcqSingle s).state).wheel = s.wheel ∧ ((takeAcqSingle s).state).est = s.est ∧
    ((takeAcqSingle s).state).target = s.target ∧ ((takeAcqSingle s).state).law = s.law ∧
    ((takeAcqSingle s).state).tilt = s.tilt ∧ ((takeAcqSingle s).state).steer = s.steer ∧
    ((takeAcqSingle s).state).arbiter = s.arbiter ∧ ((takeAcqSingle s).state).faults = s.faults ∧
    ((takeAcqSingle s).state).stats = s.stats ∧ ((takeAcqSingle s).state).notices = s.notices ∧
    ((takeAcqSingle s).state).params = s.params ∧ ((takeAcqSingle s).state).line = s.line ∧
    ((takeAcqSingle s).state).flight = s.flight ∧ ((takeAcqSingle s).state).pending = s.pending := by
  unfold takeAcqSingle; split <;> simp [refuse]

/-- MAP_WRITE. -/
@[simp] theorem takeMapWrite_frame (r : Byte) (v : Vector Int 9) (s : State) :
    ((takeMapWrite r v s).state).ctl = s.ctl ∧ ((takeMapWrite r v s).state).clamp = s.clamp ∧
    ((takeMapWrite r v s).state).acq = s.acq ∧ ((takeMapWrite r v s).state).wheel = s.wheel ∧
    ((takeMapWrite r v s).state).est = s.est ∧ ((takeMapWrite r v s).state).law = s.law ∧
    ((takeMapWrite r v s).state).tilt = s.tilt ∧ ((takeMapWrite r v s).state).steer = s.steer ∧
    ((takeMapWrite r v s).state).arbiter = s.arbiter ∧ ((takeMapWrite r v s).state).faults = s.faults ∧
    ((takeMapWrite r v s).state).stats = s.stats ∧ ((takeMapWrite r v s).state).notices = s.notices ∧
    ((takeMapWrite r v s).state).params = s.params ∧ ((takeMapWrite r v s).state).line = s.line ∧
    ((takeMapWrite r v s).state).flight = s.flight ∧ ((takeMapWrite r v s).state).pending = s.pending := by
  unfold takeMapWrite; (repeat' split) <;> simp [refuse]

/-- MAP_READ changes nothing. -/
@[simp] theorem takeMapRead_frame (r : Byte) (s : State) :
    ((takeMapRead r s).state).ctl = s.ctl ∧ ((takeMapRead r s).state).clamp = s.clamp ∧
    ((takeMapRead r s).state).acq = s.acq ∧ ((takeMapRead r s).state).wheel = s.wheel ∧
    ((takeMapRead r s).state).est = s.est ∧ ((takeMapRead r s).state).target = s.target ∧
    ((takeMapRead r s).state).law = s.law ∧ ((takeMapRead r s).state).tilt = s.tilt ∧
    ((takeMapRead r s).state).steer = s.steer ∧ ((takeMapRead r s).state).arbiter = s.arbiter ∧
    ((takeMapRead r s).state).faults = s.faults ∧ ((takeMapRead r s).state).stats = s.stats ∧
    ((takeMapRead r s).state).notices = s.notices ∧ ((takeMapRead r s).state).params = s.params ∧
    ((takeMapRead r s).state).line = s.line ∧ ((takeMapRead r s).state).flight = s.flight ∧
    ((takeMapRead r s).state).pending = s.pending := by
  unfold takeMapRead; split <;> simp [refuse]

/-- An enumerated write. -/
@[simp] theorem writeEnum_frame (p : Option Params) (x : Int) (s : State) :
    ((writeEnum p x s).state).ctl = s.ctl ∧ ((writeEnum p x s).state).clamp = s.clamp ∧
    ((writeEnum p x s).state).acq = s.acq ∧ ((writeEnum p x s).state).wheel = s.wheel ∧
    ((writeEnum p x s).state).est = s.est ∧ ((writeEnum p x s).state).target = s.target ∧
    ((writeEnum p x s).state).law = s.law ∧ ((writeEnum p x s).state).tilt = s.tilt ∧
    ((writeEnum p x s).state).steer = s.steer ∧ ((writeEnum p x s).state).arbiter = s.arbiter ∧
    ((writeEnum p x s).state).faults = s.faults ∧ ((writeEnum p x s).state).stats = s.stats ∧
    ((writeEnum p x s).state).notices = s.notices ∧ ((writeEnum p x s).state).line = s.line ∧
    ((writeEnum p x s).state).flight = s.flight ∧ ((writeEnum p x s).state).pending = s.pending := by
  unfold writeEnum; split <;> simp [refuseWrite]

/-- A calibration write. -/
@[simp] theorem writeCal_frame (c : CalParam) (x : Int) (s : State) :
    ((writeCal c x s).state).ctl = s.ctl ∧ ((writeCal c x s).state).clamp = s.clamp ∧
    ((writeCal c x s).state).acq = s.acq ∧ ((writeCal c x s).state).wheel = s.wheel ∧
    ((writeCal c x s).state).est = s.est ∧ ((writeCal c x s).state).target = s.target ∧
    ((writeCal c x s).state).law = s.law ∧ ((writeCal c x s).state).tilt = s.tilt ∧
    ((writeCal c x s).state).steer = s.steer ∧ ((writeCal c x s).state).arbiter = s.arbiter ∧
    ((writeCal c x s).state).faults = s.faults ∧ ((writeCal c x s).state).stats = s.stats ∧
    ((writeCal c x s).state).notices = s.notices ∧ ((writeCal c x s).state).line = s.line ∧
    ((writeCal c x s).state).flight = s.flight ∧ ((writeCal c x s).state).pending = s.pending := by
  unfold writeCal; (repeat' split) <;> simp [refuseWrite]

/-- A numeric write. -/
@[simp] theorem writeNum_frame (n : NumParam) (x : Int) (s : State) :
    ((writeNum n x s).state).ctl = s.ctl ∧ ((writeNum n x s).state).clamp = s.clamp ∧
    ((writeNum n x s).state).acq = s.acq ∧ ((writeNum n x s).state).wheel = s.wheel ∧
    ((writeNum n x s).state).est = s.est ∧ ((writeNum n x s).state).law = s.law ∧
    ((writeNum n x s).state).tilt = s.tilt ∧ ((writeNum n x s).state).steer = s.steer ∧
    ((writeNum n x s).state).arbiter = s.arbiter ∧ ((writeNum n x s).state).faults = s.faults ∧
    ((writeNum n x s).state).stats = s.stats ∧ ((writeNum n x s).state).notices = s.notices ∧
    ((writeNum n x s).state).line = s.line ∧ ((writeNum n x s).state).flight = s.flight ∧
    ((writeNum n x s).state).pending = s.pending := by
  unfold writeNum; dsimp only; split <;> simp

/-- A parameter write. -/
@[simp] theorem writeParam_frame (p : ParamId) (x : Int) (s : State) :
    ((writeParam p x s).state).ctl = s.ctl ∧ ((writeParam p x s).state).clamp = s.clamp ∧
    ((writeParam p x s).state).acq = s.acq ∧ ((writeParam p x s).state).wheel = s.wheel ∧
    ((writeParam p x s).state).est = s.est ∧ ((writeParam p x s).state).tilt = s.tilt ∧
    ((writeParam p x s).state).steer = s.steer ∧ ((writeParam p x s).state).arbiter = s.arbiter ∧
    ((writeParam p x s).state).faults = s.faults ∧ ((writeParam p x s).state).stats = s.stats ∧
    ((writeParam p x s).state).notices = s.notices ∧ ((writeParam p x s).state).line = s.line ∧
    ((writeParam p x s).state).flight = s.flight ∧ ((writeParam p x s).state).pending = s.pending := by
  unfold writeParam; split <;> simp

/-- SET_PARAM. -/
@[simp] theorem takeSetParam_frame (i : Byte) (x : Int) (s : State) :
    ((takeSetParam i x s).state).ctl = s.ctl ∧ ((takeSetParam i x s).state).clamp = s.clamp ∧
    ((takeSetParam i x s).state).acq = s.acq ∧ ((takeSetParam i x s).state).wheel = s.wheel ∧
    ((takeSetParam i x s).state).est = s.est ∧ ((takeSetParam i x s).state).tilt = s.tilt ∧
    ((takeSetParam i x s).state).steer = s.steer ∧ ((takeSetParam i x s).state).arbiter = s.arbiter ∧
    ((takeSetParam i x s).state).faults = s.faults ∧ ((takeSetParam i x s).state).stats = s.stats ∧
    ((takeSetParam i x s).state).notices = s.notices ∧ ((takeSetParam i x s).state).line = s.line ∧
    ((takeSetParam i x s).state).flight = s.flight ∧ ((takeSetParam i x s).state).pending = s.pending := by
  unfold takeSetParam; split <;> simp [refuse]

/-- GET_PARAM changes nothing. -/
@[simp] theorem takeGetParam_frame (i : Byte) (s : State) :
    ((takeGetParam i s).state).ctl = s.ctl ∧ ((takeGetParam i s).state).clamp = s.clamp ∧
    ((takeGetParam i s).state).acq = s.acq ∧ ((takeGetParam i s).state).wheel = s.wheel ∧
    ((takeGetParam i s).state).est = s.est ∧ ((takeGetParam i s).state).target = s.target ∧
    ((takeGetParam i s).state).law = s.law ∧ ((takeGetParam i s).state).tilt = s.tilt ∧
    ((takeGetParam i s).state).steer = s.steer ∧ ((takeGetParam i s).state).arbiter = s.arbiter ∧
    ((takeGetParam i s).state).faults = s.faults ∧ ((takeGetParam i s).state).stats = s.stats ∧
    ((takeGetParam i s).state).notices = s.notices ∧ ((takeGetParam i s).state).params = s.params ∧
    ((takeGetParam i s).state).line = s.line ∧ ((takeGetParam i s).state).flight = s.flight ∧
    ((takeGetParam i s).state).pending = s.pending := by
  unfold takeGetParam; split <;> simp [refuse]

end Sys2Proof.Machine
end

