-- ==== Sys2Proof/Laws/Answers.lean ====
section
/-! SUPPORT. Sys2Proof/Laws/Answers.lean: how a request row takes its frame, what its reply leaves, what an increment makes
of a written line, and what clearing a list of fault kinds leaves. -/

namespace Sys2Proof.Machine

/-- A row takes the oldest frame when the frame is its own. -/
theorem takeRequest_own {s : State} {f : Frame} {rest : List Frame} (row : RequestRow) (handle : Frame → State → State)
    (hf : s.flight.frames = f :: rest) (hr : f.row = row) :
    takeRequest row handle s = handle f (s.setFlight { s.flight with frames := rest }) := by
  simp [takeRequest, hf, hr]

/-- A frame with a good payload is taken by the owner and answered, when it is no broadcast or one of a kind that may
be one. -/
theorem serve_parsed {α : Type} (parse : List Byte → Option α) (owner : α → State → Answer) (f : Frame) (s : State)
    (a : α) (hb : f.broadcast = false ∨ f.kind = 0x03 ∨ f.kind = 0x07) (hp : parse f.payload = some a) :
    serve parse owner f s = putReply (owner a s).state f (owner a s).status (owner a s).payload := by
  rcases hb with hb | hb | hb <;> simp [serve, broadcastAdmitted, hb, hp]

/-- A frame with a payload of the wrong form is answered MALFORMED, under the same condition. -/
theorem serve_malformed {α : Type} (parse : List Byte → Option α) (owner : α → State → Answer) (f : Frame) (s : State)
    (hb : f.broadcast = false ∨ f.kind = 0x03 ∨ f.kind = 0x07) (hp : parse f.payload = none) :
    serve parse owner f s = putReply s f .malformed [] := by
  rcases hb with hb | hb | hb <;> simp [serve, broadcastAdmitted, hb, hp]

/-- A broadcast of any other kind is dropped. -/
theorem serve_dropped {α : Type} (parse : List Byte → Option α) (owner : α → State → Answer) (f : Frame) (s : State)
    (hb : f.broadcast = true) (h3 : f.kind ≠ 0x03) (h7 : f.kind ≠ 0x07) : serve parse owner f s = s := by
  have : broadcastAdmitted f = false := by
    unfold broadcastAdmitted; rw [decide_eq_false h3, decide_eq_false h7]; rfl
  simp [serve, hb, this]

/-- A broadcast frame gets no reply. -/
theorem putReply_broadcast (s : State) (f : Frame) (st : Status) (p : List Byte) (hb : f.broadcast = true) :
    putReply s f st p = s := by
  simp [putReply, hb]

/-- An increment does not read the line. -/
theorem increment_setLine (s : State) (l : StationLine) (id : CounterId) :
    increment (s.setLine l) id = (increment s id).setLine l := by
  obtain ⟨a, b⟩ := increment_congr (s := s.setLine l) (t := s) id rfl rfl rfl
  apply State.ext_blocks <;> simp [a, b]

/-- A post past a full queue goes into the newest record's dropped count. -/
theorem dropOnNewest_append (older : List Notice) (newest : Notice) :
    dropOnNewest (older ++ [newest]) = older ++ [{ newest with dropped := min (newest.dropped + 1) 255 }] := by
  induction older with
  | nil => rfl
  | cons a older ih =>
    cases older with
    | nil => rfl
    | cons b older => simp only [List.cons_append, dropOnNewest] at *; rw [ih]

/-- A kind that a FAULT_CLEAR naming it clears. -/
def willClear (s : State) (k : FaultKind) : Bool := (s.faults.table.get k).status.isSome && mayClear k s.ctl.regime

/-- What clearing one kind leaves. -/
theorem clearKind_spec (s : State) (k : FaultKind) :
    (∀ j, (clearKind s k).faults.table.get j =
      if j = k ∧ willClear s k = true then { s.faults.table.get j with status := none } else s.faults.table.get j) ∧
    (clearKind s k).faults.pointer = s.faults.pointer.filter (fun p => !(decide (p.kind = k) && willClear s k)) ∧
    (clearKind s k).tilt =
      (if k = .tiltDriveTrip ∧ willClear s k = true ∧ s.tilt.state = .tripped then
        { s.tilt with state := .off, applied := 0 }
      else s.tilt) ∧
    (clearKind s k).steer =
      (if k = .steerDriveTrip ∧ willClear s k = true ∧ s.steer.state = .tripped then
        { s.steer with state := if s.ctl.regime = .off then .off else .on, applied := 0 }
      else s.steer) ∧
    clearKind s k = { s with
      faults := { s.faults with
        table := (clearKind s k).faults.table, pointer := (clearKind s k).faults.pointer }
      tilt := (clearKind s k).tilt, steer := (clearKind s k).steer } := by
  unfold clearKind
  by_cases h : willClear s k = true
  · have h' := h
    unfold willClear at h
    dsimp only
    rw [if_pos h]
    simp only [h', and_true, true_and, Bool.and_true]
    have hreg : k.tripChannel ≠ none → s.ctl.regime = .off ∨ s.ctl.regime = .locked := by
      intro hk; unfold mayClear at h; rcases hx : k.tripChannel with _ | c
      · exact absurd hx hk
      · rw [hx] at h; simp at h; exact h.2
    refine ⟨?_, ?_, ?_, ?_, ?_⟩
    · intro j; by_cases hj : j = k
      · subst hj; rw [if_pos rfl]; cases j <;> rfl
      · rw [if_neg hj]; cases j <;> cases k <;> first | rfl | (exact absurd rfl hj)
    · have : ∀ t : State, (handClearing k t).faults = t.faults := by intro t; cases k <;> rfl
      rw [this]
      rcases hp : s.faults.pointer with _ | p
      · simp
      · by_cases hk : p.kind = k <;> simp [hk, Option.filter]
    · cases k <;> try rfl
      have := hreg (by decide)
      rcases this with hr | hr <;> cases ht : s.tilt.state <;>
        simp [handClearing, FaultKind.tripChannel, DriveChannel.restore, ht, hr, tiltEnabled]
    · cases k <;> try rfl
      have := hreg (by decide)
      rcases this with hr | hr <;> cases ht : s.steer.state <;>
        simp [handClearing, FaultKind.tripChannel, DriveChannel.restore, ht, hr, steerEnabled]
    · cases k <;> rfl
  · have h' := h
    unfold willClear at h
    dsimp only
    rw [if_neg h]
    simp [h']
    rcases s.faults.pointer with _ | p <;> simp [Option.filter]
/-- No kind stands twice in the list of kinds. -/
theorem FaultKind.list_nodup : FaultKind.list.Nodup := by decide


/-- What clearing a list of different kinds leaves: each is cleared on its own. -/
theorem clearKinds_spec (ks : List FaultKind) : ∀ s : State, ks.Nodup →
    (∀ j, (ks.foldl clearKind s).faults.table.get j =
      if j ∈ ks ∧ willClear s j = true then { s.faults.table.get j with status := none }
      else s.faults.table.get j) ∧
    (ks.foldl clearKind s).faults.pointer =
      s.faults.pointer.filter (fun p => !(decide (p.kind ∈ ks) && willClear s p.kind)) ∧
    (ks.foldl clearKind s).tilt =
      (if .tiltDriveTrip ∈ ks ∧ willClear s .tiltDriveTrip = true ∧ s.tilt.state = .tripped then
        { s.tilt with state := .off, applied := 0 }
      else s.tilt) ∧
    (ks.foldl clearKind s).steer =
      (if .steerDriveTrip ∈ ks ∧ willClear s .steerDriveTrip = true ∧ s.steer.state = .tripped then
        { s.steer with state := if s.ctl.regime = .off then .off else .on, applied := 0 }
      else s.steer) ∧
    ks.foldl clearKind s = { s with
      faults := { s.faults with
        table := (ks.foldl clearKind s).faults.table, pointer := (ks.foldl clearKind s).faults.pointer }
      tilt := (ks.foldl clearKind s).tilt, steer := (ks.foldl clearKind s).steer } := by
  induction ks with
  | nil => intro s _; simp; rcases s.faults.pointer with _ | p <;> simp [Option.filter]
  | cons k ks ih =>
    intro s hn
    rw [List.nodup_cons] at hn
    obtain ⟨a1, a2, a3, a4, a5⟩ := clearKind_spec s k
    obtain ⟨b1, b2, b3, b4, b5⟩ := ih (clearKind s k) hn.2
    have hreg : (clearKind s k).ctl = s.ctl := by rw [a5]
    have same : ∀ j, j ≠ k → willClear (clearKind s k) j = willClear s j := by
      intro j hj; unfold willClear; rw [hreg, a1, if_neg (fun h => hj h.1)]
    simp only [List.foldl_cons]
    refine ⟨?_, ?_, ?_, ?_, ?_⟩
    · intro j
      rw [b1 j]
      by_cases hj : j = k
      · subst hj; rw [if_neg (fun h => hn.1 h.1), a1]; simp
      · rw [same j hj]; simp [hj, a1]
    · rw [b2, a2]
      rcases s.faults.pointer with _ | p
      · rfl
      · by_cases hj : p.kind = k
        · simp only [Option.filter, hj, decide_true, Bool.true_and]
          by_cases hc : willClear s k = true <;> simp [hc, hj, hn.1]
        · simp only [Option.filter, hj, decide_false, Bool.false_and, Bool.not_false, if_true]
          simp [hj, same _ hj]
    · rw [b3, a3]
      by_cases hk : k = .tiltDriveTrip
      · subst hk; rw [if_neg (fun h => hn.1 h.1)]; simp
      · rw [same _ (Ne.symm hk)]; simp [Ne.symm hk, hk]
    · rw [b4, a4, hreg]
      by_cases hk : k = .steerDriveTrip
      · subst hk; rw [if_neg (fun h => hn.1 h.1)]; simp
      · rw [same _ (Ne.symm hk)]; simp [Ne.symm hk, hk]
    · rw [b5, a5]

end Sys2Proof.Machine
end

