-- ==== Sys2Proof/Laws/Sensing.lean ====
section
/-! SUPPORT. Sys2Proof/Laws/Sensing.lean: which blocks the events of the sensing blocks, the channels and the arbiter leave alone. -/

namespace Sys2Proof.Machine

/-- Settling a period writes the sequencer and what a detection writes. -/
@[simp] theorem settlePeriod_frame (s : State) :
    (settlePeriod s).ctl = s.ctl ∧ (settlePeriod s).clamp = s.clamp ∧ (settlePeriod s).wheel = s.wheel ∧
    (settlePeriod s).est = s.est ∧ (settlePeriod s).target = s.target ∧ (settlePeriod s).law = s.law ∧
    (settlePeriod s).tilt = s.tilt ∧ (settlePeriod s).steer = s.steer ∧ (settlePeriod s).arbiter = s.arbiter ∧
    (settlePeriod s).params = s.params ∧ (settlePeriod s).line = s.line ∧ (settlePeriod s).pending = s.pending ∧
    (settlePeriod s).notices.now = s.notices.now ∧ (settlePeriod s).flight.snapEst = s.flight.snapEst ∧
    (settlePeriod s).flight.snapClamp = s.flight.snapClamp ∧ (settlePeriod s).flight.snapTilt = s.flight.snapTilt ∧
    (settlePeriod s).flight.snapSteer = s.flight.snapSteer ∧ (settlePeriod s).flight.snapArb = s.flight.snapArb ∧
    (settlePeriod s).flight.estimates = s.flight.estimates ∧
    (settlePeriod s).flight.clampEvents = s.flight.clampEvents ∧
    (settlePeriod s).flight.captureExpiries = s.flight.captureExpiries ∧
    (settlePeriod s).flight.targetMsgs = s.flight.targetMsgs ∧
    (settlePeriod s).flight.leanCommands = s.flight.leanCommands ∧
    (settlePeriod s).flight.appliesSent = s.flight.appliesSent ∧
    (settlePeriod s).flight.appliesTaken = s.flight.appliesTaken ∧
    (settlePeriod s).flight.demands = s.flight.demands ∧ (settlePeriod s).flight.grants = s.flight.grants ∧
    (settlePeriod s).flight.frames = s.flight.frames := by
  unfold settlePeriod; dsimp only; split
  · split
    · split <;> simp
    · simp
  · simp

/-- A delivery goes into the five snapshot lists. -/
@[simp] theorem deliverSnapshot_frame (s : State) (p : Snapshot) :
    (deliverSnapshot s p).ctl = s.ctl ∧ (deliverSnapshot s p).clamp = s.clamp ∧ (deliverSnapshot s p).acq = s.acq ∧
    (deliverSnapshot s p).wheel = s.wheel ∧ (deliverSnapshot s p).est = s.est ∧
    (deliverSnapshot s p).target = s.target ∧ (deliverSnapshot s p).law = s.law ∧
    (deliverSnapshot s p).tilt = s.tilt ∧ (deliverSnapshot s p).steer = s.steer ∧
    (deliverSnapshot s p).arbiter = s.arbiter ∧ (deliverSnapshot s p).faults = s.faults ∧
    (deliverSnapshot s p).stats = s.stats ∧ (deliverSnapshot s p).notices = s.notices ∧
    (deliverSnapshot s p).params = s.params ∧ (deliverSnapshot s p).line = s.line ∧
    (deliverSnapshot s p).pending = s.pending := by
  simp [deliverSnapshot]

/-- A glitch writes the wheel speed unit and what a detection writes. -/
@[simp] theorem takeGlitch_frame (s : State) :
    (takeGlitch s).ctl = s.ctl ∧ (takeGlitch s).clamp = s.clamp ∧ (takeGlitch s).acq = s.acq ∧
    (takeGlitch s).est = s.est ∧ (takeGlitch s).target = s.target ∧ (takeGlitch s).law = s.law ∧
    (takeGlitch s).tilt = s.tilt ∧ (takeGlitch s).steer = s.steer ∧ (takeGlitch s).arbiter = s.arbiter ∧
    (takeGlitch s).params = s.params ∧ (takeGlitch s).line = s.line ∧ (takeGlitch s).pending = s.pending ∧
    (takeGlitch s).notices.now = s.notices.now ∧ (takeGlitch s).flight.snapEst = s.flight.snapEst ∧
    (takeGlitch s).flight.snapClamp = s.flight.snapClamp ∧ (takeGlitch s).flight.snapTilt = s.flight.snapTilt ∧
    (takeGlitch s).flight.snapSteer = s.flight.snapSteer ∧ (takeGlitch s).flight.snapArb = s.flight.snapArb ∧
    (takeGlitch s).flight.estimates = s.flight.estimates ∧
    (takeGlitch s).flight.clampEvents = s.flight.clampEvents ∧
    (takeGlitch s).flight.captureExpiries = s.flight.captureExpiries ∧
    (takeGlitch s).flight.targetMsgs = s.flight.targetMsgs ∧
    (takeGlitch s).flight.leanCommands = s.flight.leanCommands ∧
    (takeGlitch s).flight.appliesSent = s.flight.appliesSent ∧
    (takeGlitch s).flight.appliesTaken = s.flight.appliesTaken ∧ (takeGlitch s).flight.demands = s.flight.demands ∧
    (takeGlitch s).flight.grants = s.flight.grants ∧ (takeGlitch s).flight.frames = s.flight.frames := by
  unfold takeGlitch; dsimp only; split <;> simp

/-- A report of the estimator writes what a detection writes. -/
@[simp] theorem reportSnapshot_frame (before after : Estimator) (s : State) :
    (reportSnapshot before after s).ctl = s.ctl ∧ (reportSnapshot before after s).clamp = s.clamp ∧
    (reportSnapshot before after s).acq = s.acq ∧ (reportSnapshot before after s).wheel = s.wheel ∧
    (reportSnapshot before after s).est = s.est ∧ (reportSnapshot before after s).target = s.target ∧
    (reportSnapshot before after s).law = s.law ∧ (reportSnapshot before after s).tilt = s.tilt ∧
    (reportSnapshot before after s).steer = s.steer ∧ (reportSnapshot before after s).arbiter = s.arbiter ∧
    (reportSnapshot before after s).params = s.params ∧ (reportSnapshot before after s).line = s.line ∧
    (reportSnapshot before after s).pending = s.pending ∧
    (reportSnapshot before after s).notices.now = s.notices.now ∧
    (reportSnapshot before after s).flight.snapEst = s.flight.snapEst ∧
    (reportSnapshot before after s).flight.snapClamp = s.flight.snapClamp ∧
    (reportSnapshot before after s).flight.snapTilt = s.flight.snapTilt ∧
    (reportSnapshot before after s).flight.snapSteer = s.flight.snapSteer ∧
    (reportSnapshot before after s).flight.snapArb = s.flight.snapArb ∧
    (reportSnapshot before after s).flight.estimates = s.flight.estimates ∧
    (reportSnapshot before after s).flight.clampEvents = s.flight.clampEvents ∧
    (reportSnapshot before after s).flight.captureExpiries = s.flight.captureExpiries ∧
    (reportSnapshot before after s).flight.targetMsgs = s.flight.targetMsgs ∧
    (reportSnapshot before after s).flight.leanCommands = s.flight.leanCommands ∧
    (reportSnapshot before after s).flight.appliesSent = s.flight.appliesSent ∧
    (reportSnapshot before after s).flight.appliesTaken = s.flight.appliesTaken ∧
    (reportSnapshot before after s).flight.demands = s.flight.demands ∧
    (reportSnapshot before after s).flight.grants = s.flight.grants ∧
    (reportSnapshot before after s).flight.frames = s.flight.frames := by
    simp only [reportSnapshot, apply_ite State.ctl, apply_ite State.clamp, apply_ite State.acq, apply_ite
    State.wheel, apply_ite State.est, apply_ite State.target, apply_ite State.law, apply_ite State.tilt,
    apply_ite State.steer, apply_ite State.arbiter, apply_ite State.params, apply_ite State.line, apply_ite
    State.pending, apply_ite State.flight, apply_ite State.notices, apply_ite Flight.snapEst, apply_ite
    Flight.snapClamp, apply_ite Flight.snapTilt, apply_ite Flight.snapSteer, apply_ite Flight.snapArb,
    apply_ite Flight.estimates, apply_ite Flight.clampEvents, apply_ite Flight.captureExpiries, apply_ite
    Flight.targetMsgs, apply_ite Flight.leanCommands, apply_ite Flight.appliesSent, apply_ite
    Flight.appliesTaken, apply_ite Flight.demands, apply_ite Flight.grants, apply_ite Flight.frames, apply_ite
    NoticeQueue.now, detect_frame, increment_frame, post_frame, ite_self, and_self]

/-- A clamp event goes into its list. -/
@[simp] theorem sendClampEvent_frame (s : State) (e : ClampEvent) :
    (sendClampEvent s e).ctl = s.ctl ∧ (sendClampEvent s e).clamp = s.clamp ∧ (sendClampEvent s e).acq = s.acq ∧
    (sendClampEvent s e).wheel = s.wheel ∧ (sendClampEvent s e).est = s.est ∧
    (sendClampEvent s e).target = s.target ∧ (sendClampEvent s e).law = s.law ∧ (sendClampEvent s e).tilt = s.tilt ∧
    (sendClampEvent s e).steer = s.steer ∧ (sendClampEvent s e).arbiter = s.arbiter ∧
    (sendClampEvent s e).faults = s.faults ∧ (sendClampEvent s e).stats = s.stats ∧
    (sendClampEvent s e).notices = s.notices ∧ (sendClampEvent s e).params = s.params ∧
    (sendClampEvent s e).line = s.line ∧ (sendClampEvent s e).pending = s.pending := by
  simp [sendClampEvent]

/-- The estimator's snapshot. -/
@[simp] theorem takeSnapshotAtEstimator_frame (n : Snapshot) (s : State) :
    (takeSnapshotAtEstimator n s).ctl = s.ctl ∧ (takeSnapshotAtEstimator n s).clamp = s.clamp ∧
    (takeSnapshotAtEstimator n s).acq = s.acq ∧ (takeSnapshotAtEstimator n s).wheel = s.wheel ∧
    (takeSnapshotAtEstimator n s).target = s.target ∧ (takeSnapshotAtEstimator n s).law = s.law ∧
    (takeSnapshotAtEstimator n s).tilt = s.tilt ∧ (takeSnapshotAtEstimator n s).steer = s.steer ∧
    (takeSnapshotAtEstimator n s).arbiter = s.arbiter ∧ (takeSnapshotAtEstimator n s).params = s.params ∧
    (takeSnapshotAtEstimator n s).line = s.line ∧ (takeSnapshotAtEstimator n s).pending = s.pending ∧
    (takeSnapshotAtEstimator n s).notices.now = s.notices.now := by
  simp [takeSnapshotAtEstimator]

/-- The clamp's snapshot. -/
@[simp] theorem takeSnapshotAtClamp_frame (n : Snapshot) (s : State) :
    (takeSnapshotAtClamp n s).ctl = s.ctl ∧ (takeSnapshotAtClamp n s).acq = s.acq ∧
    (takeSnapshotAtClamp n s).wheel = s.wheel ∧ (takeSnapshotAtClamp n s).est = s.est ∧
    (takeSnapshotAtClamp n s).target = s.target ∧ (takeSnapshotAtClamp n s).law = s.law ∧
    (takeSnapshotAtClamp n s).tilt = s.tilt ∧ (takeSnapshotAtClamp n s).steer = s.steer ∧
    (takeSnapshotAtClamp n s).arbiter = s.arbiter ∧ (takeSnapshotAtClamp n s).params = s.params ∧
    (takeSnapshotAtClamp n s).line = s.line ∧ (takeSnapshotAtClamp n s).pending = s.pending ∧
    (takeSnapshotAtClamp n s).notices.now = s.notices.now := by
  unfold takeSnapshotAtClamp; dsimp only; split <;> split <;> simp

/-- A trip event of TILT. -/
@[simp] theorem tripTilt_frame (s : State) :
    (tripTilt s).ctl = s.ctl ∧ (tripTilt s).clamp = s.clamp ∧ (tripTilt s).acq = s.acq ∧
    (tripTilt s).wheel = s.wheel ∧ (tripTilt s).est = s.est ∧ (tripTilt s).target = s.target ∧
    (tripTilt s).law = s.law ∧ (tripTilt s).steer = s.steer ∧ (tripTilt s).arbiter = s.arbiter ∧
    (tripTilt s).params = s.params ∧ (tripTilt s).line = s.line ∧ (tripTilt s).pending = s.pending ∧
    (tripTilt s).notices.now = s.notices.now ∧ (tripTilt s).flight.snapEst = s.flight.snapEst ∧
    (tripTilt s).flight.snapClamp = s.flight.snapClamp ∧ (tripTilt s).flight.snapTilt = s.flight.snapTilt ∧
    (tripTilt s).flight.snapSteer = s.flight.snapSteer ∧ (tripTilt s).flight.snapArb = s.flight.snapArb ∧
    (tripTilt s).flight.estimates = s.flight.estimates ∧ (tripTilt s).flight.clampEvents = s.flight.clampEvents ∧
    (tripTilt s).flight.captureExpiries = s.flight.captureExpiries ∧
    (tripTilt s).flight.targetMsgs = s.flight.targetMsgs ∧
    (tripTilt s).flight.leanCommands = s.flight.leanCommands ∧
    (tripTilt s).flight.appliesSent = s.flight.appliesSent ∧
    (tripTilt s).flight.appliesTaken = s.flight.appliesTaken ∧ (tripTilt s).flight.demands = s.flight.demands ∧
    (tripTilt s).flight.grants = s.flight.grants ∧ (tripTilt s).flight.frames = s.flight.frames := by
  simp [tripTilt]

/-- A trip event of STEER. -/
@[simp] theorem tripSteer_frame (s : State) :
    (tripSteer s).ctl = s.ctl ∧ (tripSteer s).clamp = s.clamp ∧ (tripSteer s).acq = s.acq ∧
    (tripSteer s).wheel = s.wheel ∧ (tripSteer s).est = s.est ∧ (tripSteer s).target = s.target ∧
    (tripSteer s).law = s.law ∧ (tripSteer s).tilt = s.tilt ∧ (tripSteer s).arbiter = s.arbiter ∧
    (tripSteer s).params = s.params ∧ (tripSteer s).line = s.line ∧ (tripSteer s).pending = s.pending ∧
    (tripSteer s).notices.now = s.notices.now ∧ (tripSteer s).flight.snapEst = s.flight.snapEst ∧
    (tripSteer s).flight.snapClamp = s.flight.snapClamp ∧ (tripSteer s).flight.snapTilt = s.flight.snapTilt ∧
    (tripSteer s).flight.snapSteer = s.flight.snapSteer ∧ (tripSteer s).flight.snapArb = s.flight.snapArb ∧
    (tripSteer s).flight.estimates = s.flight.estimates ∧ (tripSteer s).flight.clampEvents = s.flight.clampEvents ∧
    (tripSteer s).flight.captureExpiries = s.flight.captureExpiries ∧
    (tripSteer s).flight.targetMsgs = s.flight.targetMsgs ∧
    (tripSteer s).flight.leanCommands = s.flight.leanCommands ∧
    (tripSteer s).flight.appliesSent = s.flight.appliesSent ∧
    (tripSteer s).flight.appliesTaken = s.flight.appliesTaken ∧ (tripSteer s).flight.demands = s.flight.demands ∧
    (tripSteer s).flight.grants = s.flight.grants ∧ (tripSteer s).flight.frames = s.flight.frames := by
  unfold tripSteer; split
  · simp
  · split <;> simp

/-- The TILT channel's snapshot. -/
@[simp] theorem takeSnapshotAtTilt_frame (n : Snapshot) (s : State) :
    (takeSnapshotAtTilt n s).ctl = s.ctl ∧ (takeSnapshotAtTilt n s).clamp = s.clamp ∧
    (takeSnapshotAtTilt n s).acq = s.acq ∧ (takeSnapshotAtTilt n s).wheel = s.wheel ∧
    (takeSnapshotAtTilt n s).est = s.est ∧ (takeSnapshotAtTilt n s).target = s.target ∧
    (takeSnapshotAtTilt n s).law = s.law ∧ (takeSnapshotAtTilt n s).steer = s.steer ∧
    (takeSnapshotAtTilt n s).arbiter = s.arbiter ∧ (takeSnapshotAtTilt n s).params = s.params ∧
    (takeSnapshotAtTilt n s).line = s.line ∧ (takeSnapshotAtTilt n s).pending = s.pending ∧
    (takeSnapshotAtTilt n s).notices.now = s.notices.now ∧
    (takeSnapshotAtTilt n s).flight.snapEst = s.flight.snapEst ∧
    (takeSnapshotAtTilt n s).flight.snapClamp = s.flight.snapClamp ∧
    (takeSnapshotAtTilt n s).flight.snapTilt = s.flight.snapTilt ∧
    (takeSnapshotAtTilt n s).flight.snapSteer = s.flight.snapSteer ∧
    (takeSnapshotAtTilt n s).flight.snapArb = s.flight.snapArb ∧
    (takeSnapshotAtTilt n s).flight.estimates = s.flight.estimates ∧
    (takeSnapshotAtTilt n s).flight.clampEvents = s.flight.clampEvents ∧
    (takeSnapshotAtTilt n s).flight.captureExpiries = s.flight.captureExpiries ∧
    (takeSnapshotAtTilt n s).flight.targetMsgs = s.flight.targetMsgs ∧
    (takeSnapshotAtTilt n s).flight.leanCommands = s.flight.leanCommands ∧
    (takeSnapshotAtTilt n s).flight.appliesSent = s.flight.appliesSent ∧
    (takeSnapshotAtTilt n s).flight.appliesTaken = s.flight.appliesTaken ∧
    (takeSnapshotAtTilt n s).flight.demands = s.flight.demands ∧
    (takeSnapshotAtTilt n s).flight.grants = s.flight.grants ∧
    (takeSnapshotAtTilt n s).flight.frames = s.flight.frames := by
  unfold takeSnapshotAtTilt; dsimp only; split <;> simp

/-- The STEER channel's snapshot. -/
@[simp] theorem takeSnapshotAtSteer_frame (n : Snapshot) (s : State) :
    (takeSnapshotAtSteer n s).ctl = s.ctl ∧ (takeSnapshotAtSteer n s).clamp = s.clamp ∧
    (takeSnapshotAtSteer n s).acq = s.acq ∧ (takeSnapshotAtSteer n s).wheel = s.wheel ∧
    (takeSnapshotAtSteer n s).est = s.est ∧ (takeSnapshotAtSteer n s).target = s.target ∧
    (takeSnapshotAtSteer n s).law = s.law ∧ (takeSnapshotAtSteer n s).tilt = s.tilt ∧
    (takeSnapshotAtSteer n s).arbiter = s.arbiter ∧ (takeSnapshotAtSteer n s).params = s.params ∧
    (takeSnapshotAtSteer n s).line = s.line ∧ (takeSnapshotAtSteer n s).pending = s.pending ∧
    (takeSnapshotAtSteer n s).notices.now = s.notices.now ∧
    (takeSnapshotAtSteer n s).flight.snapEst = s.flight.snapEst ∧
    (takeSnapshotAtSteer n s).flight.snapClamp = s.flight.snapClamp ∧
    (takeSnapshotAtSteer n s).flight.snapTilt = s.flight.snapTilt ∧
    (takeSnapshotAtSteer n s).flight.snapSteer = s.flight.snapSteer ∧
    (takeSnapshotAtSteer n s).flight.snapArb = s.flight.snapArb ∧
    (takeSnapshotAtSteer n s).flight.estimates = s.flight.estimates ∧
    (takeSnapshotAtSteer n s).flight.clampEvents = s.flight.clampEvents ∧
    (takeSnapshotAtSteer n s).flight.captureExpiries = s.flight.captureExpiries ∧
    (takeSnapshotAtSteer n s).flight.targetMsgs = s.flight.targetMsgs ∧
    (takeSnapshotAtSteer n s).flight.leanCommands = s.flight.leanCommands ∧
    (takeSnapshotAtSteer n s).flight.appliesSent = s.flight.appliesSent ∧
    (takeSnapshotAtSteer n s).flight.appliesTaken = s.flight.appliesTaken ∧
    (takeSnapshotAtSteer n s).flight.demands = s.flight.demands ∧
    (takeSnapshotAtSteer n s).flight.grants = s.flight.grants ∧
    (takeSnapshotAtSteer n s).flight.frames = s.flight.frames := by
  unfold takeSnapshotAtSteer; dsimp only; split <;> simp

/-- The arbiter's snapshot. -/
@[simp] theorem takeSnapshotAtArbiter_frame (n : Snapshot) (s : State) :
    (takeSnapshotAtArbiter n s).ctl = s.ctl ∧ (takeSnapshotAtArbiter n s).clamp = s.clamp ∧
    (takeSnapshotAtArbiter n s).acq = s.acq ∧ (takeSnapshotAtArbiter n s).wheel = s.wheel ∧
    (takeSnapshotAtArbiter n s).est = s.est ∧ (takeSnapshotAtArbiter n s).target = s.target ∧
    (takeSnapshotAtArbiter n s).law = s.law ∧ (takeSnapshotAtArbiter n s).tilt = s.tilt ∧
    (takeSnapshotAtArbiter n s).steer = s.steer ∧ (takeSnapshotAtArbiter n s).params = s.params ∧
    (takeSnapshotAtArbiter n s).line = s.line ∧ (takeSnapshotAtArbiter n s).pending = s.pending ∧
    (takeSnapshotAtArbiter n s).notices.now = s.notices.now ∧
    (takeSnapshotAtArbiter n s).flight.snapEst = s.flight.snapEst ∧
    (takeSnapshotAtArbiter n s).flight.snapClamp = s.flight.snapClamp ∧
    (takeSnapshotAtArbiter n s).flight.snapTilt = s.flight.snapTilt ∧
    (takeSnapshotAtArbiter n s).flight.snapSteer = s.flight.snapSteer ∧
    (takeSnapshotAtArbiter n s).flight.snapArb = s.flight.snapArb ∧
    (takeSnapshotAtArbiter n s).flight.estimates = s.flight.estimates ∧
    (takeSnapshotAtArbiter n s).flight.clampEvents = s.flight.clampEvents ∧
    (takeSnapshotAtArbiter n s).flight.captureExpiries = s.flight.captureExpiries ∧
    (takeSnapshotAtArbiter n s).flight.targetMsgs = s.flight.targetMsgs ∧
    (takeSnapshotAtArbiter n s).flight.leanCommands = s.flight.leanCommands ∧
    (takeSnapshotAtArbiter n s).flight.appliesSent = s.flight.appliesSent ∧
    (takeSnapshotAtArbiter n s).flight.appliesTaken = s.flight.appliesTaken ∧
    (takeSnapshotAtArbiter n s).flight.demands = s.flight.demands ∧
    (takeSnapshotAtArbiter n s).flight.grants = s.flight.grants ∧
    (takeSnapshotAtArbiter n s).flight.frames = s.flight.frames := by
  unfold takeSnapshotAtArbiter; dsimp only; split <;> split <;> simp

/-- The two grants. -/
@[simp] theorem takeGrants_frame (g : Grants) (s : State) :
    (takeGrants g s).ctl = s.ctl ∧ (takeGrants g s).clamp = s.clamp ∧ (takeGrants g s).acq = s.acq ∧
    (takeGrants g s).wheel = s.wheel ∧ (takeGrants g s).est = s.est ∧ (takeGrants g s).target = s.target ∧
    (takeGrants g s).law = s.law ∧ (takeGrants g s).arbiter = s.arbiter ∧ (takeGrants g s).faults = s.faults ∧
    (takeGrants g s).stats = s.stats ∧ (takeGrants g s).notices = s.notices ∧ (takeGrants g s).params = s.params ∧
    (takeGrants g s).line = s.line ∧ (takeGrants g s).flight = s.flight ∧ (takeGrants g s).pending = s.pending := by
  simp [takeGrants]

/-- An arbitration. -/
@[simp] theorem takeDemands_frame (d : Demands) (s : State) :
    (takeDemands d s).ctl = s.ctl ∧ (takeDemands d s).clamp = s.clamp ∧ (takeDemands d s).acq = s.acq ∧
    (takeDemands d s).wheel = s.wheel ∧ (takeDemands d s).est = s.est ∧ (takeDemands d s).target = s.target ∧
    (takeDemands d s).law = s.law ∧ (takeDemands d s).tilt = s.tilt ∧ (takeDemands d s).steer = s.steer ∧
    (takeDemands d s).faults = s.faults ∧ (takeDemands d s).params = s.params ∧ (takeDemands d s).line = s.line ∧
    (takeDemands d s).pending = s.pending ∧ (takeDemands d s).notices.now = s.notices.now := by
  unfold takeDemands; dsimp only; split <;> split <;> simp

end Sys2Proof.Machine
end

