-- ==== Sys2Proof/Laws/Events.lean ====
section
/-! SUPPORT. Sys2Proof/Laws/Events.lean: which blocks the timer and sensor events leave alone, and what a character and a RESTART can do. -/

namespace Sys2Proof.Machine

/-- A millisecond passes at the clamp, the regime controller and the notice queue. -/
theorem execTimestampTick_frame {s t : State} (h : execTimestampTick s = .next t) :
    t.acq = s.acq ∧ t.wheel = s.wheel ∧ t.est = s.est ∧ t.target = s.target ∧ t.law = s.law ∧ t.tilt = s.tilt ∧
    t.steer = s.steer ∧ t.arbiter = s.arbiter ∧ t.faults = s.faults ∧ t.stats = s.stats ∧ t.params = s.params ∧
    t.line = s.line ∧ t.pending = s.pending ∧ t.ctl.regime = s.ctl.regime ∧ t.ctl.cause = s.ctl.cause ∧
    t.ctl.hold = s.ctl.hold ∧ t.ctl.forced = s.ctl.forced ∧ t.ctl.purpose = s.ctl.purpose ∧
    t.ctl.capTimer = s.ctl.capTimer.tick ∧ t.clamp.solenoid = s.clamp.solenoid.tick ∧
    t.notices.records = s.notices.records ∧ t.notices.attention = s.notices.attention ∧
    t.notices.alert = s.notices.alert ∧ t.flight.demands = s.flight.demands ∧ t.flight.grants = s.flight.grants := by
  simp only [execTimestampTick, Host.Outcome.next.injEq] at h; subst h
  split <;> simp

/-- A period start. -/
theorem execAcquisitionPeriodStart_frame {s t : State} (h : execAcquisitionPeriodStart s = .next t) :
    t.ctl = s.ctl ∧ t.clamp = s.clamp ∧ t.wheel = s.wheel ∧ t.est = s.est ∧ t.target = s.target ∧ t.law = s.law ∧
    t.tilt = s.tilt ∧ t.steer = s.steer ∧ t.arbiter = s.arbiter ∧ t.params = s.params ∧ t.line = s.line ∧
    t.pending = s.pending ∧ t.notices.now = s.notices.now ∧ t.flight.demands = s.flight.demands ∧
    t.flight.grants = s.flight.grants := by
  simp only [execAcquisitionPeriodStart, Host.Outcome.next.injEq] at h; subst h
  split <;> simp

/-- A conversion. -/
theorem execConversionComplete_frame {s t : State} {r : Nat} {l : StandLevel} (h : execConversionComplete r l s = .next t) :
    t.ctl = s.ctl ∧ t.clamp = s.clamp ∧ t.wheel = s.wheel ∧ t.est = s.est ∧ t.target = s.target ∧ t.law = s.law ∧
    t.tilt = s.tilt ∧ t.steer = s.steer ∧ t.arbiter = s.arbiter ∧ t.faults = s.faults ∧ t.stats = s.stats ∧
    t.notices = s.notices ∧ t.params = s.params ∧ t.line = s.line ∧ t.pending = s.pending ∧
    t.flight.demands = s.flight.demands ∧ t.flight.grants = s.flight.grants := by
  simp only [execConversionComplete] at h
  (repeat' split at h) <;> cases h <;> simp [deliverSnapshot]

/-- The end of pull-in. -/
theorem execPullInEnd_frame {s t : State} (h : execPullInEnd s = .next t) :
    t.ctl = s.ctl ∧ t.acq = s.acq ∧ t.wheel = s.wheel ∧ t.est = s.est ∧ t.target = s.target ∧ t.law = s.law ∧
    t.tilt = s.tilt ∧ t.steer = s.steer ∧ t.arbiter = s.arbiter ∧ t.faults = s.faults ∧ t.stats = s.stats ∧
    t.notices = s.notices ∧ t.params = s.params ∧ t.line = s.line ∧ t.flight = s.flight ∧ t.pending = s.pending := by
  simp only [execPullInEnd] at h
  (repeat' split at h) <;> cases h <;> simp

/-- The lock timer runs out. -/
theorem execLockTimerExpiry_frame {s t : State} (h : execLockTimerExpiry s = .next t) :
    t.ctl = s.ctl ∧ t.acq = s.acq ∧ t.wheel = s.wheel ∧ t.est = s.est ∧ t.target = s.target ∧ t.law = s.law ∧
    t.tilt = s.tilt ∧ t.steer = s.steer ∧ t.arbiter = s.arbiter ∧ t.faults = s.faults ∧ t.stats = s.stats ∧
    t.notices = s.notices ∧ t.params = s.params ∧ t.line = s.line ∧ t.pending = s.pending ∧
    t.clamp.solenoid = s.clamp.solenoid ∧ t.flight.demands = s.flight.demands ∧ t.flight.grants = s.flight.grants := by
  simp only [execLockTimerExpiry] at h
  (repeat' split at h) <;> cases h <;> simp [sendClampEvent]

/-- A wheel pulse. -/
theorem execWheelPulse_frame {s t : State} {e : Nat} (h : execWheelPulse e s = .next t) :
    t.ctl = s.ctl ∧ t.clamp = s.clamp ∧ t.acq = s.acq ∧ t.est = s.est ∧ t.target = s.target ∧ t.law = s.law ∧
    t.tilt = s.tilt ∧ t.steer = s.steer ∧ t.arbiter = s.arbiter ∧ t.params = s.params ∧ t.line = s.line ∧
    t.pending = s.pending ∧ t.notices.now = s.notices.now ∧ t.flight.demands = s.flight.demands ∧
    t.flight.grants = s.flight.grants := by
  simp only [execWheelPulse] at h
  (repeat' split at h) <;> cases h <;> simp

/-- An evaluation. -/
theorem execEvaluationTimerExpiry_frame {s t : State} {e : Nat} (h : execEvaluationTimerExpiry e s = .next t) :
    t.ctl = s.ctl ∧ t.clamp = s.clamp ∧ t.acq = s.acq ∧ t.est = s.est ∧ t.target = s.target ∧ t.law = s.law ∧
    t.tilt = s.tilt ∧ t.steer = s.steer ∧ t.arbiter = s.arbiter ∧ t.faults = s.faults ∧ t.stats = s.stats ∧
    t.notices = s.notices ∧ t.params = s.params ∧ t.line = s.line ∧ t.flight = s.flight ∧ t.pending = s.pending := by
  simp only [execEvaluationTimerExpiry] at h
  (repeat' split at h) <;> cases h <;> simp

/-- A gap. -/
theorem execGapTimerExpiry_frame {s t : State} {e : Nat} (h : execGapTimerExpiry e s = .next t) :
    t.ctl = s.ctl ∧ t.clamp = s.clamp ∧ t.acq = s.acq ∧ t.wheel = s.wheel ∧ t.est = s.est ∧ t.target = s.target ∧
    t.law = s.law ∧ t.tilt = s.tilt ∧ t.steer = s.steer ∧ t.arbiter = s.arbiter ∧ t.faults = s.faults ∧
    t.params = s.params ∧ t.flight = s.flight ∧ t.pending = s.pending ∧ t.notices.now = s.notices.now := by
  simp only [execGapTimerExpiry] at h
  (repeat' split at h) <;> cases h <;> simp

/-- The end of the turnaround. -/
theorem execTurnaroundExpiry_frame {s t : State} {e : Nat} (h : execTurnaroundExpiry e s = .next t) :
    t.ctl = s.ctl ∧ t.clamp = s.clamp ∧ t.acq = s.acq ∧ t.wheel = s.wheel ∧ t.est = s.est ∧ t.target = s.target ∧
    t.law = s.law ∧ t.tilt = s.tilt ∧ t.steer = s.steer ∧ t.arbiter = s.arbiter ∧ t.faults = s.faults ∧
    t.stats = s.stats ∧ t.notices = s.notices ∧ t.params = s.params ∧ t.flight = s.flight ∧ t.pending = s.pending := by
  simp only [execTurnaroundExpiry] at h
  (repeat' split at h) <;> cases h <;> simp

/-- What line updates, counts, handed-on frames and the warm reset keep, every character keeps. -/
theorem takeCharacter_ind (P : State → Prop) (line : ∀ s x, P s → P (s.setLine x))
    (count : ∀ s id, P s → P (increment s id))
    (frames : ∀ (s : State) (x : List Frame), P s → P (s.setFlight { s.flight with frames := x }))
    (warm : ∀ s, P s → P (warmReset s)) (c : LineChar) (s : State) (hs : P s) : P (takeCharacter c s) := by
  have restart : ∀ s, P s → P (finishRestart s) := by
    intro s hs
    unfold finishRestart
    split
    · exact warm s hs
    · exact hs
  have abandon : ∀ s rx, P s → P (abandonFrame s rx) := fun s rx hs => count _ _ (line _ _ hs)
  have address : ∀ s a, P s → P (receiveAddress s a) := by
    intro s a hs
    unfold receiveAddress
    dsimp only
    split <;> split
    · exact line _ _ (abandon _ _ hs)
    · exact line _ _ hs
    · exact count _ _ (line _ _ (abandon _ _ hs))
    · exact count _ _ (line _ _ hs)
  have drop : ∀ s id, P s → P (dropReply s id) := fun s id hs => count _ _ (line _ _ hs)
  have takes : ∀ s a, P s → P (addressTakesLine s a) := fun s a hs => restart _ (address _ _ (drop _ _ hs))
  have finish : ∀ s, P s → P (endReply s) := fun s hs => restart _ (line _ _ hs)
  unfold takeCharacter
  split
  · unfold readBack
    split
    · exact finish _ hs
    · split
      · split
        · exact line _ _ hs
        · exact finish _ hs
      · split
        · exact takes _ _ hs
        · exact restart _ (drop _ _ hs)
  · split
    · exact takes _ _ hs
    · exact hs
  · split
    · unfold receiveFramingError
      split
      · exact abandon _ _ hs
      · exact hs
      · exact hs
    · split
      · exact address _ _ hs
      · unfold receiveData
        dsimp only
        split
        · exact hs
        · exact hs
        · split
          · exact abandon _ _ hs
          · split
            · unfold finishFrame
              dsimp only
              split
              · exact frames _ _ (count _ _ (line _ _ hs))
              · exact abandon _ _ hs
            · exact line _ _ hs

/-- What every character keeps, an address character keeps, taken or discarded. -/
theorem execAddressCharacter_ind {P : State → Prop} (take : ∀ c s, P s → P (takeCharacter c s)) {value : AddressChar}
    {s t : State} (hs : P s) (h : execAddressCharacter value s = .next t) : P t := by
  unfold execAddressCharacter at h
  cases h
  split
  · exact take _ _ hs
  · exact hs

/-- The reply of a RESTART that waited has ended: what is left is the warm reset, since it keeps nothing of the line
but the straps. -/
theorem endReply_waiting {s : State} (h : s.line.restartWaiting = true) : endReply s = warmReset s := by
  simp only [endReply, finishRestart, State.setLine_line, h, if_true]
  rfl

/-- WARM_RESET is the warm reset or nothing. -/
theorem execWarmReset_eq (s : State) :
    execWarmReset s = .next (if s.line.restartWaiting && replyAtEnd s.line then warmReset s else s) := by
  unfold execWarmReset
  split
  · rename_i h
    rw [endReply_waiting (Bool.and_eq_true_iff.mp h).1]
  · rfl

/-- What a reply, line updates and the warm reset keep, a RESTART keeps. -/
theorem takeRestart_ind (P : State → Prop) (line : ∀ s x, P s → P (s.setLine x))
    (reply : ∀ s f st p, P s → P (putReply s f st p)) (warm : ∀ s, P s → P (warmReset s)) (f : Frame) (s : State)
    (hs : P s) : P (takeRestart f s) := by
  unfold takeRestart
  dsimp only
  split
  · split
    · exact warm _ hs
    · exact line _ _ (reply _ _ _ _ hs)
  · exact reply _ _ _ _ hs

end Sys2Proof.Machine
end

