-- ==== Sys2Proof/WellFormed.lean ====
section
/-! DEFINITION. Sys2Proof/WellFormed.lean: which commands name an event that can happen. The operands given as
numbers have the width of the wires they come in on; every other operand is of a type that holds nothing else. -/

namespace Sys2Proof

/-- A command is well formed when the straps are values of three and two wires (10 R162) and a conversion's result
is one of the converter's twelve bits (00_scope "Units", 03 "The inputs"). -/
def Instr.wellFormed : Instr → Bool
  | .coldReset station rate => decide (station ≤ 7) && decide (rate ≤ 3)
  | .conversionComplete result _ => decide (result ≤ 4095)
  | .warmReset | .timestampTick | .acquisitionPeriodStart | .snapshotAtEstimator | .snapshotAtClamp
  | .snapshotAtChannel _ | .snapshotAtArbiter | .estimate | .classChange | .pullInEnd | .lockTimerExpiry
  | .lockTimerExpiryTaken | .captureTimerExpiry | .majorFaultNotification | .setCommand | .applyCommand
  | .regimeDecision | .demandComputation | .arbitration | .grant | .wheelPulse _ | .evaluationTimerExpiry _
  | .addressCharacter _ | .dataCharacter _ | .framingErrorCharacter | .gapTimerExpiry _ | .turnaroundExpiry _
  | .readbackCharacter _ | .ident | .status | .setParam | .getParam | .mapWrite | .mapRead | .arm | .disarm
  | .release | .lock | .restart | .faultRead | .faultClear | .faultConfig | .counterRead | .eventRead
  | .sampleRead | .acqConfig | .acqSingle | .unknownKind | .commandCodeOutOfRange => true

end Sys2Proof
end

