-- ==== Sys2Proof/Laws/PerInstr.lean ====
section
/-! SUPPORT. Sys2Proof/Laws/PerInstr.lean: the only ill-formed commands are a cold reset with straps wider than their
wires and a conversion with a result wider than the converter's; one lemma for each command. -/

namespace Sys2Proof.Laws.WellFormed

/-- A command that is not well formed is a cold reset whose station straps exceed 7 or whose rate straps exceed 3, or
a conversion whose result exceeds 4095. -/
def Statement (i : Instr) : Prop :=
  i.wellFormed = false →
    (∃ station rate, i = .coldReset station rate ∧ (7 < station ∨ 3 < rate)) ∨
      (∃ result stand, i = .conversionComplete result stand ∧ 4095 < result)

theorem coldReset (stationStraps rateStraps : Nat) : Statement (.coldReset stationStraps rateStraps) := by
  intro h
  exact .inl ⟨_, _, rfl, by simp [Instr.wellFormed] at h; omega⟩

theorem warmReset : Statement .warmReset := fun h => nomatch h

theorem timestampTick : Statement .timestampTick := fun h => nomatch h

theorem acquisitionPeriodStart : Statement .acquisitionPeriodStart := fun h => nomatch h

theorem conversionComplete (result : Nat) (stand : StandLevel) : Statement (.conversionComplete result stand) := by
  intro h
  exact .inr ⟨_, _, rfl, by simpa [Instr.wellFormed] using h⟩

theorem snapshotAtEstimator : Statement .snapshotAtEstimator := fun h => nomatch h

theorem snapshotAtClamp : Statement .snapshotAtClamp := fun h => nomatch h

theorem snapshotAtChannel (ch : Channel) : Statement (.snapshotAtChannel ch) := fun h => nomatch h

theorem snapshotAtArbiter : Statement .snapshotAtArbiter := fun h => nomatch h

theorem estimate : Statement .estimate := fun h => nomatch h

theorem classChange : Statement .classChange := fun h => nomatch h

theorem pullInEnd : Statement .pullInEnd := fun h => nomatch h

theorem lockTimerExpiry : Statement .lockTimerExpiry := fun h => nomatch h

theorem lockTimerExpiryTaken : Statement .lockTimerExpiryTaken := fun h => nomatch h

theorem captureTimerExpiry : Statement .captureTimerExpiry := fun h => nomatch h

theorem majorFaultNotification : Statement .majorFaultNotification := fun h => nomatch h

theorem setCommand : Statement .setCommand := fun h => nomatch h

theorem applyCommand : Statement .applyCommand := fun h => nomatch h

theorem regimeDecision : Statement .regimeDecision := fun h => nomatch h

theorem demandComputation : Statement .demandComputation := fun h => nomatch h

theorem arbitration : Statement .arbitration := fun h => nomatch h

theorem grant : Statement .grant := fun h => nomatch h

theorem wheelPulse (elapsed : Nat) : Statement (.wheelPulse elapsed) := fun h => nomatch h

theorem evaluationTimerExpiry (elapsed : Nat) : Statement (.evaluationTimerExpiry elapsed) := fun h => nomatch h

theorem addressCharacter (value : AddressChar) : Statement (.addressCharacter value) := fun h => nomatch h

theorem dataCharacter (value : Byte) : Statement (.dataCharacter value) := fun h => nomatch h

theorem framingErrorCharacter : Statement .framingErrorCharacter := fun h => nomatch h

theorem gapTimerExpiry (elapsed : Nat) : Statement (.gapTimerExpiry elapsed) := fun h => nomatch h

theorem turnaroundExpiry (elapsed : Nat) : Statement (.turnaroundExpiry elapsed) := fun h => nomatch h

theorem readbackCharacter (c : LineChar) : Statement (.readbackCharacter c) := fun h => nomatch h

theorem ident : Statement .ident := fun h => nomatch h

theorem status : Statement .status := fun h => nomatch h

theorem setParam : Statement .setParam := fun h => nomatch h

theorem getParam : Statement .getParam := fun h => nomatch h

theorem mapWrite : Statement .mapWrite := fun h => nomatch h

theorem mapRead : Statement .mapRead := fun h => nomatch h

theorem arm : Statement .arm := fun h => nomatch h

theorem disarm : Statement .disarm := fun h => nomatch h

theorem release : Statement .release := fun h => nomatch h

theorem lock : Statement .lock := fun h => nomatch h

theorem restart : Statement .restart := fun h => nomatch h

theorem faultRead : Statement .faultRead := fun h => nomatch h

theorem faultClear : Statement .faultClear := fun h => nomatch h

theorem faultConfig : Statement .faultConfig := fun h => nomatch h

theorem counterRead : Statement .counterRead := fun h => nomatch h

theorem eventRead : Statement .eventRead := fun h => nomatch h

theorem sampleRead : Statement .sampleRead := fun h => nomatch h

theorem acqConfig : Statement .acqConfig := fun h => nomatch h

theorem acqSingle : Statement .acqSingle := fun h => nomatch h

theorem unknownKind : Statement .unknownKind := fun h => nomatch h

theorem commandCodeOutOfRange : Statement .commandCodeOutOfRange := fun h => nomatch h

end Sys2Proof.Laws.WellFormed
end

