-- ==== Sys2Proof/Laws/Step.lean ====
section
/-! SUPPORT. Sys2Proof/Laws/Step.lean: what a step that answers a next state has done, and what is enough for a property
to be kept by every step. -/

namespace Sys2Proof.Machine

/-- A step either idled on an empty queue, or ran the command at the front on the state with the queue's rest. -/
theorem step_cases {s t : State} (h : step s = .next t) :
    (s.pending = [] ∧ t = s) ∨
      ∃ c rest, s.pending = c :: rest ∧ exec c { s with pending := rest } = .next t := by
  unfold step at h
  split at h
  next hp => exact .inl ⟨hp, (Host.Outcome.next.inj h).symm⟩
  next c rest hp => exact .inr ⟨c, rest, hp, h⟩

/-- A property that the queue does not enter into is kept by every step if every command keeps it. -/
theorem step_keeps (P : State → Prop) (queue : ∀ s q, P s → P { s with pending := q })
    (each : ∀ c s t, P s → exec c s = .next t → P t) {s t : State} (hs : P s) (h : step s = .next t) : P t := by
  obtain ⟨-, rfl⟩ | ⟨c, rest, -, hx⟩ := step_cases h
  · exact hs
  · exact each c _ t (queue s rest hs) hx

/-- What keeps a property at each event: the in-flight lists losing entries, and every effect of a command. The
request rows that only read are covered by `reply`. -/
structure Keeps (P : State → Prop) : Prop where
  flight : ∀ s f, P s → (∀ d ∈ f.demands, d ∈ s.flight.demands) → (∀ g ∈ f.grants, g ∈ s.flight.grants) →
    P (s.setFlight f)
  cold : ∀ a b q, P { State.coldStart a b with pending := q }
  warm : ∀ s, P s → P (warmReset s)
  tick : ∀ s t, P s → execTimestampTick s = .next t → P t
  period : ∀ s t, P s → execAcquisitionPeriodStart s = .next t → P t
  conversion : ∀ r l s t, P s → execConversionComplete r l s = .next t → P t
  estimator : ∀ n s, P s → P (takeSnapshotAtEstimator n s)
  clamp : ∀ n s, P s → P (takeSnapshotAtClamp n s)
  tilt : ∀ n s, P s → P (takeSnapshotAtTilt n s)
  steer : ∀ n s, P s → P (takeSnapshotAtSteer n s)
  arbiter : ∀ n s, P s → P (takeSnapshotAtArbiter n s)
  estimate : ∀ e s, P s → P (takeEstimate e s)
  classChange : ∀ c s, P s → P (takeClassChange c s)
  pullIn : ∀ s t, P s → execPullInEnd s = .next t → P t
  lockTimer : ∀ s t, P s → execLockTimerExpiry s = .next t → P t
  lockExpiry : ∀ r s, P s → P (takeLockExpiry r s)
  captureExpiry : ∀ r s, P s → P (takeCaptureExpiry r s)
  notification : ∀ k s, P s → P (takeNotification k s)
  set : ∀ x s, P s → P (takeSet x s)
  apply : ∀ s, P s → P (s.setLaw s.law.applyHeld)
  decision : ∀ d s, P s → P (takeDecision d s)
  leanCommand : ∀ c s, P s → P (takeLeanCommand c s)
  demands : ∀ d rest s, P s → s.flight.demands = d :: rest →
    P (takeDemands d (s.setFlight { s.flight with demands := rest }))
  grants : ∀ g rest s, P s → s.flight.grants = g :: rest →
    P (takeGrants g (s.setFlight { s.flight with grants := rest }))
  pulse : ∀ e s t, P s → execWheelPulse e s = .next t → P t
  evaluation : ∀ e s t, P s → execEvaluationTimerExpiry e s = .next t → P t
  character : ∀ c s, P s → P (takeCharacter c s)
  gap : ∀ e s t, P s → execGapTimerExpiry e s = .next t → P t
  turnaround : ∀ e s t, P s → execTurnaroundExpiry e s = .next t → P t
  reply : ∀ s f st p, P s → P (putReply s f st p)
  setParam : ∀ i x s, P s → P (takeSetParam i x s).state
  mapWrite : ∀ r v s, P s → P (takeMapWrite r v s).state
  arm : ∀ s, P s → P (takeArm s).state
  disarm : ∀ s, P s → P (takeDisarm s).state
  release : ∀ s, P s → P (takeRelease s).state
  lock : ∀ s, P s → P (takeLock s).state
  restart : ∀ f s, P s → P (takeRestart f s)
  faultClear : ∀ b s, P s → P (takeFaultClear b s).state
  faultConfig : ∀ k x d r s, P s → P (takeFaultConfig k x d r s).state
  counterRead : ∀ i x a s, P s → P (takeCounterRead i x a s).state
  eventRead : ∀ n s, P s → P (takeEventRead n s).state
  sampleRead : ∀ i f s, P s → P (takeSampleRead i f s).state
  acqConfig : ∀ m n s, P s → P (takeAcqConfig m n s).state
  acqSingle : ∀ s, P s → P (takeAcqSingle s).state

/-- MAP_READ changes nothing. -/
theorem takeMapRead_state (r : Byte) (s : State) : (takeMapRead r s).state = s := by
  unfold takeMapRead; split <;> rfl

/-- FAULT_READ changes nothing. -/
theorem takeFaultRead_state (b : Byte) (s : State) : (takeFaultRead b s).state = s := by
  unfold takeFaultRead
  split
  · rfl
  · split <;> rfl

/-- GET_PARAM changes nothing. -/
theorem takeGetParam_state (i : Byte) (s : State) : (takeGetParam i s).state = s := by
  unfold takeGetParam; split <;> rfl

/-- A request row keeps what popping a frame, a reply and its owner keep. -/
theorem Keeps.row {P : State → Prop} (k : Keeps P) {α : Type} (row : RequestRow) (parse : List Byte → Option α)
    (owner : α → State → Answer) (ho : ∀ a s, P s → P (owner a s).state) (s : State) (hs : P s) :
    P (takeRequest row (serve parse owner) s) :=
  takeRequest_ind P row _ s hs fun f rest _ _ =>
    have hp : P (s.setFlight { s.flight with frames := rest }) := k.flight _ _ hs (fun _ h => h) (fun _ h => h)
    serve_ind P parse owner f _ hp (k.reply _ _ _ _ hp) fun a _ => k.reply _ _ _ _ (ho a _ hp)

/-- A property that each event keeps is kept by every command. -/
theorem Keeps.exec {P : State → Prop} (k : Keeps P) (c : Instr) (s t : State) (hs : P s) (h : exec c s = .next t) :
    P t := by
  have pop : ∀ f, f.demands = s.flight.demands → f.grants = s.flight.grants → P (s.setFlight f) := fun f hd hg =>
    k.flight _ _ hs (fun _ h => hd ▸ h) (fun _ h => hg ▸ h)
  cases c <;> simp only [Machine.exec] at h
  case coldReset => cases h; exact k.cold _ _ _
  case warmReset =>
    rw [execWarmReset_eq] at h
    cases h
    split
    · exact k.warm _ hs
    · exact hs
  case timestampTick => exact k.tick _ _ hs h
  case acquisitionPeriodStart => exact k.period _ _ hs h
  case conversionComplete => exact k.conversion _ _ _ _ hs h
  case snapshotAtEstimator =>
    unfold execSnapshotAtEstimator at h
    split at h <;> cases h
    · exact hs
    · exact k.estimator _ _ (pop _ rfl rfl)
  case snapshotAtClamp =>
    unfold execSnapshotAtClamp at h
    split at h <;> cases h
    · exact hs
    · exact k.clamp _ _ (pop _ rfl rfl)
  case snapshotAtChannel =>
    unfold execSnapshotAtChannel at h
    split at h <;> split at h <;> cases h
    · exact hs
    · exact k.tilt _ _ (pop _ rfl rfl)
    · exact hs
    · exact k.steer _ _ (pop _ rfl rfl)
  case snapshotAtArbiter =>
    unfold execSnapshotAtArbiter at h
    split at h <;> cases h
    · exact hs
    · exact k.arbiter _ _ (pop _ rfl rfl)
  case estimate =>
    unfold execEstimate at h
    split at h <;> cases h
    · exact hs
    · exact k.estimate _ _ (pop _ rfl rfl)
  case classChange =>
    unfold execClassChange at h
    split at h <;> cases h
    · exact k.classChange _ _ (pop _ rfl rfl)
    · exact hs
    · exact hs
  case pullInEnd => exact k.pullIn _ _ hs h
  case lockTimerExpiry => exact k.lockTimer _ _ hs h
  case lockTimerExpiryTaken =>
    unfold execLockTimerExpiryTaken at h
    split at h <;> cases h
    · exact k.lockExpiry _ _ (pop _ rfl rfl)
    · exact hs
    · exact hs
  case captureTimerExpiry =>
    unfold execCaptureTimerExpiry at h
    split at h <;> cases h
    · exact hs
    · exact k.captureExpiry _ _ (pop _ rfl rfl)
  case majorFaultNotification =>
    unfold execMajorFaultNotification at h
    split at h <;> cases h
    · exact hs
    · exact k.notification _ _ (pop _ rfl rfl)
  case setCommand =>
    unfold execSetCommand at h
    split at h <;> cases h
    · exact k.set _ _ (pop _ rfl rfl)
    · exact hs
    · exact hs
  case applyCommand =>
    unfold execApplyCommand at h
    split at h <;> cases h
    · exact k.flight _ _ (k.apply _ hs) (fun _ h => h) (fun _ h => h)
    · exact hs
  case regimeDecision =>
    unfold execRegimeDecision at h
    split at h <;> cases h
    · exact k.decision _ _ (pop _ rfl rfl)
    · exact hs
    · exact hs
  case demandComputation =>
    unfold execDemandComputation at h
    split at h
    · cases h; exact hs
    · split at h <;> cases h
      · exact k.leanCommand _ _ (pop _ rfl rfl)
      · exact hs
  case arbitration =>
    unfold execArbitration at h
    split at h <;> cases h
    · exact hs
    · exact k.demands _ _ _ hs (by assumption)
  case grant =>
    unfold execGrant at h
    split at h <;> cases h
    · exact hs
    · exact k.grants _ _ _ hs (by assumption)
  case wheelPulse => exact k.pulse _ _ _ hs h
  case evaluationTimerExpiry => exact k.evaluation _ _ _ hs h
  case addressCharacter => exact execAddressCharacter_ind k.character hs h
  case dataCharacter => cases h; exact k.character _ _ hs
  case framingErrorCharacter => cases h; exact k.character _ _ hs
  case gapTimerExpiry => exact k.gap _ _ _ hs h
  case turnaroundExpiry => exact k.turnaround _ _ _ hs h
  case readbackCharacter => cases h; exact k.character _ _ hs
  case ident => cases h; exact k.row _ _ _ (fun _ _ hs => hs) _ hs
  case status => cases h; exact k.row _ _ _ (fun _ _ hs => hs) _ hs
  case setParam => cases h; exact k.row _ _ _ (fun _ _ hs => k.setParam _ _ _ hs) _ hs
  case getParam => cases h; exact k.row _ _ _ (fun _ _ hs => (takeGetParam_state _ _).symm ▸ hs) _ hs
  case mapWrite => cases h; exact k.row _ _ _ (fun _ _ hs => k.mapWrite _ _ _ hs) _ hs
  case mapRead => cases h; exact k.row _ _ _ (fun _ _ hs => (takeMapRead_state _ _).symm ▸ hs) _ hs
  case arm => cases h; exact k.row _ _ _ (fun _ _ hs => k.arm _ hs) _ hs
  case disarm => cases h; exact k.row _ _ _ (fun _ _ hs => k.disarm _ hs) _ hs
  case release => cases h; exact k.row _ _ _ (fun _ _ hs => k.release _ hs) _ hs
  case lock => cases h; exact k.row _ _ _ (fun _ _ hs => k.lock _ hs) _ hs
  case restart => cases h; exact takeRequest_ind P _ _ s hs fun _ _ _ _ => k.restart _ _ (pop _ rfl rfl)
  case faultRead => cases h; exact k.row _ _ _ (fun _ _ hs => (takeFaultRead_state _ _).symm ▸ hs) _ hs
  case faultClear => cases h; exact k.row _ _ _ (fun _ _ hs => k.faultClear _ _ hs) _ hs
  case faultConfig => cases h; exact k.row _ _ _ (fun _ _ hs => k.faultConfig _ _ _ _ _ hs) _ hs
  case counterRead => cases h; exact k.row _ _ _ (fun _ _ hs => k.counterRead _ _ _ _ hs) _ hs
  case eventRead => cases h; exact k.row _ _ _ (fun _ _ hs => k.eventRead _ _ hs) _ hs
  case sampleRead => cases h; exact k.row _ _ _ (fun _ _ hs => k.sampleRead _ _ _ hs) _ hs
  case acqConfig => cases h; exact k.row _ _ _ (fun _ _ hs => k.acqConfig _ _ _ hs) _ hs
  case acqSingle => cases h; exact k.row _ _ _ (fun _ _ hs => k.acqSingle _ hs) _ hs
  case unknownKind =>
    cases h
    exact takeRequest_ind P _ _ s hs fun _ _ _ _ => k.reply _ _ _ _ (pop _ rfl rfl)
  case commandCodeOutOfRange => cases h; exact k.row _ _ _ (fun _ _ hs => hs) _ hs

/-- A property that each event keeps, and that the queue does not enter into, is kept by every step. -/
theorem Keeps.step {P : State → Prop} (k : Keeps P) (queue : ∀ s q, P s → P { s with pending := q }) {s t : State}
    (hs : P s) (h : Machine.step s = .next t) : P t :=
  step_keeps P queue k.exec hs h

end Sys2Proof.Machine
end

