-- ==== Sys2Proof/Tests/Slice0.lean ====
section
/-! SUPPORT. Sys2Proof/Tests/Slice0.lean: the smoke of the well-formedness check; one event or two of each family on small
states, most with the numbers of the spec's worked examples; and, for every statement with hypotheses, a state and operands
that meet them. -/

namespace Sys2Proof.Tests

open Sys2Proof Sys2Proof.Machine

/-! ## Small states -/

/-- The state after a command that answers one. -/
def after (c : Instr) (s : State) : State :=
  match exec c s with
  | .next t => t
  | .fault _ => s
  | .refused _ => s

/-- The part after reset, but for the regime and what goes with it. -/
def at_ (r : Regime) (cause : Option CaptureCause := none) (hold : Option Bool := none)
    (purpose : Option RunPurpose := none) (timer : CaptureTimer := .stopped) : State :=
  State.reset.setCtl
    { RegimeCtl.start with regime := r, cause := cause, hold := hold, purpose := purpose, capTimer := timer }

/-- Some messages under way, and the state with them. -/
def sent (f : Flight) (s : State) : State := s.setFlight f

/-- A good frame. -/
def frame (kind : Byte) (payload : List Byte) (broadcast : Bool := false) : Frame :=
  { kind := kind, tag := 0x77, payload := payload, broadcast := broadcast }

/-- The state with one good frame handed on. -/
def asks (f : Frame) (s : State) : State := sent { Flight.start with frames := [f] } s

/-- The status and the payload of the reply in the buffer. -/
def answer (s : State) : Option (Status × List Byte) := s.line.reply.map fun r => (r.status, r.payload)

/-- A snapshot with nothing at rail. -/
def snapshot (leanA leanB bar stroke iTilt : Nat) : Snapshot :=
  { results := { leanA := leanA, leanB := leanB, bar := bar, stroke := stroke, iTilt := iTilt, iSteer := 2048, vsup := 2600,
                 temp := 1500 }
    rail := .all false
    stand := .up }

/-- A snapshot with one averaged result for every input, and that input's rail value. -/
def flat (r : Nat) (rail : Bool) : Snapshot := { results := .all r, rail := .all rail, stand := .down }

/-- An estimate. -/
def estimate (meas : MeasState) (phi phiRate : Int) (stand : Bool := false) : Estimate :=
  { meas := meas, phi := phi, bar := 350, phiRate := phiRate, barRate := 5000, ringFull := true, stand := stand }

/-- A decision on an estimate. -/
def decision (r : Regime) (hold : Option Bool := none) : Decision :=
  { regime := r, hold := hold, est := estimate .valid 1023 5000, applies := 0 }

/-- The line in a transmit state with a reply that has no payload. -/
def replying (tx : TxState) : State :=
  State.reset.setLine { State.reset.line with
    tx := tx, reply := some { kind := 0x83, tag := 0x77, status := .ok, payload := [] } }

/-- The line in a receive state with these bytes. -/
def receiving (rx : RxState) (bytes : List Byte) : State :=
  State.reset.setLine { State.reset.line with rx := rx, buffer := bytes }

/-! ## Ill-formed commands are refused by the check -/

theorem test_station_straps_of_three_wires :
    (Instr.coldReset 7 3).wellFormed = true ∧ (Instr.coldReset 8 0).wellFormed = false := by decide

theorem test_rate_straps_of_two_wires :
    (Instr.coldReset 0 3).wellFormed = true ∧ (Instr.coldReset 0 4).wellFormed = false := by decide

theorem test_results_of_twelve_bits :
    (Instr.conversionComplete 4095 .up).wellFormed = true ∧ (Instr.conversionComplete 4096 .up).wellFormed = false := by
  decide

/-! ## The step -/

theorem test_step_takes_the_front :
    step { State.reset with pending := [.timestampTick, .pullInEnd] } =
      exec .timestampTick { State.reset with pending := [.pullInEnd] } := rfl

theorem test_step_idles : step State.reset = .next State.reset := rfl

theorem test_no_word_spells_a_command :
    decodeTableWord 8 0x07 = none ∧ State.reset.withFetchWord 8 0x07 = State.reset := by decide

/-! ## Events -/

theorem test_cold_reset_samples_the_straps :
    (after (.coldReset 7 3) (at_ .failed)).line.station = 8 ∧ (after (.coldReset 7 3) (at_ .failed)).ctl.regime = .off := by
  decide

theorem test_timestamp_wraps :
    (after .timestampTick (State.reset.setNotices { State.reset.notices with now := 4294967295 })).notices.now = 0 := by
  decide

theorem test_third_missed_period_is_stale_input :
    let s := after .acquisitionPeriodStart
      (State.reset.setAcq { State.reset.acq with awaitingFirst := false, missed := 2 })
    s.acq.missed = 3 ∧ s.faults.table.staleInput.status.isSome = true ∧ s.flight.notifications = [.staleInput] ∧
      s.stats.missedPeriods.value = 1 := by decide

theorem test_conversion_averages_and_publishes :
    let q : Sequence := { k := .two, done := 1, sum := 10, finished := [0, 1, 2, 3, 4, 5, 6] }
    let s := after (.conversionComplete 4095 .down) (State.reset.setAcq { State.reset.acq with inFlight := some q })
    s.acq.last.results.temp = 2052 ∧ s.acq.published = true ∧ s.flight.snapArb.length = 1 := by decide

/-- The ring of 05's worked example. -/
def exampleRing : List RingRecord :=
  [⟨978, 305⟩, ⟨983, 310⟩, ⟨988, 315⟩, ⟨993, 320⟩, ⟨998, 325⟩, ⟨1003, 330⟩, ⟨1008, 335⟩, ⟨1013, 340⟩, ⟨1018, 345⟩]

theorem test_reference_snapshot :
    let s := after .snapshotAtEstimator
      (sent { Flight.start with snapEst := [snapshot 2700 1390 2272 2000 2048] }
        (State.reset.setEst { Estimator.start with meas := .valid, phi := 1018, ring := exampleRing }))
    s.est.meas = .valid ∧ s.est.phi = 1023 ∧ s.est.phiRate = 5000 ∧ s.est.barRate = 5000 ∧
      s.flight.estimates.length = 1 := by decide

theorem test_reference_target :
    let row := fun (x : Int) => #v[0, 0, 0, 0, 0, x, 0, 0, 0]
    let map : LeanMap := (LeanMap.zero.set 3 (row 1210)).set 4 (row 2090)
    let s := after .regimeDecision
      (sent { Flight.start with targetMsgs := [.decision (decision .active)] }
        ((State.reset.setTarget { map := map, target := none, phiCmd := 1100, limited := false }).setWheel
          { WheelUnit.start with v := 700 }))
    s.target.target = some 1155 ∧ s.target.phiCmd = 1120 ∧ s.target.limited = true ∧ s.stats.rateLimited.value = 1 := by
  decide

theorem test_reference_demands :
    let s := after .demandComputation
      (sent { Flight.start with leanCommands := [{ phiCmd := 1120, decision := decision .active }] }
        (State.reset.setWheel { WheelUnit.start with v := 700 }))
    s.law.w = 128 ∧ s.flight.demands = [{ dT := -87, dS := -91, limT := 1500, limS := 500 }] := by decide

theorem test_low_supply_cuts_the_steering :
    let s := after .arbitration
      (sent { Flight.start with demands := [{ dT := 1400, dS := -500, limT := 1500, limS := 500 }] }
        (((State.reset.setTilt { State.reset.tilt with state := .on }).setSteer
          { State.reset.steer with state := .on }).setArbiter
          { State.reset.arbiter with supplyLow := { value := true, run := 0 } }))
    s.flight.grants = [{ gT := 1250, gS := 0, limT := 1500, limS := 500 }] ∧ s.arbiter.cutRun = true ∧
      s.notices.records.map (·.content) = [.budgetCut 1250 0] := by decide

theorem test_grant_reaches_a_channel_that_is_on :
    let s := after .grant
      (sent { Flight.start with grants := [{ gT := 1250, gS := 7, limT := 1500, limS := 250 }] }
        (State.reset.setTilt { State.reset.tilt with state := .on }))
    s.tilt.applied = 1250 ∧ s.steer.applied = 0 ∧ s.steer.heldLimit = 250 := by decide

theorem test_stalled_bridge_trips :
    let s := after (.snapshotAtChannel .tilt)
      (sent { Flight.start with snapTilt := [snapshot 0 0 0 0 3910] }
        (State.reset.setTilt
          { state := .on, applied := 1090, echoRef := 1060, heldLimit := 1500, current := 2340,
            echo := .start, overcurrent := { value := false, run := 2 } }))
    s.tilt.current = 2327 ∧ s.tilt.state = .tripped ∧ s.tilt.applied = 0 ∧ s.tilt.echoRef = 1090 ∧
      s.flight.notifications = [.tiltDriveTrip] := by decide

theorem test_third_low_reading_is_supply_low :
    let n := { snapshot 0 0 0 0 0 with results := { (snapshot 0 0 0 0 0).results with vsup := 2340 } }
    let s := after .snapshotAtArbiter
      (sent { Flight.start with snapArb := [n] }
        (State.reset.setArbiter { State.reset.arbiter with supplyLow := { value := false, run := 2 } }))
    s.arbiter.supplyLow = { value := true, run := 0 } ∧ s.faults.minorPresent = true := by decide

theorem test_third_closed_class_is_sent :
    let s := after .snapshotAtClamp
      (sent { Flight.start with snapClamp := [snapshot 0 0 0 800 0] }
        (State.reset.setClamp { ClampCtl.start with
          stroke := { cls := .unknown, candidate := some .closed, run := 2 } }))
    s.clamp.stroke = { cls := .closed, candidate := none, run := 0 } ∧
      s.flight.clampEvents = [.classChange .closed] := by decide

theorem test_estimate_in_off_is_kept_and_decided :
    let s := after .estimate (sent { Flight.start with estimates := [estimate .valid 12 0] } State.reset)
    s.ctl.latest.phi = 12 ∧ s.flight.targetMsgs.length = 1 := by decide

theorem test_open_confirms_a_release :
    let s := after .classChange
      (sent { Flight.start with clampEvents := [.classChange .opened] } (at_ .releasing (purpose := some .release)))
    s.ctl.regime = .active ∧ s.stats.releases.value = 1 ∧ s.tilt.state = .on := by decide

theorem test_lock_expiry_fails_an_engagement :
    let s := after .lockTimerExpiryTaken
      (sent { Flight.start with clampEvents := [.lockExpiry 0 .engage] }
        (at_ .engaging (hold := some false) (purpose := some .engage)))
    s.ctl.regime = .failed ∧ s.faults.majorPresent = true := by decide

theorem test_wheel_pulse_times_a_revolution :
    (after (.wheelPulse 1000) (State.reset.setWheel { WheelUnit.start with sincePulse := some 9000 })).wheel.v = 700 := by
  decide

theorem test_wheel_stands_after_half_a_second :
    (after (.evaluationTimerExpiry 1000)
      (State.reset.setWheel { WheelUnit.start with sincePulse := some 499000, v := 3 })).wheel.v = 0 := by decide

theorem test_frame_is_handed_on :
    let s := after (.dataCharacter 0xBD) (receiving .addressed [0x02, 0x01, 0x77, 0x9F])
    s.flight.frames = [frame 0x01 []] ∧ s.stats.framesGood.value = 1 := by decide +kernel

theorem test_address_of_another_station :
    let s := after (.addressCharacter { data := 9, start := .sinceReset }) State.reset
    s.line.rx = .skipping ∧ s.stats.framesOther.value = 1 := by decide

theorem test_character_begun_before_a_reset_is_discarded :
    after (.addressCharacter { data := 1, start := .beforeReset }) State.reset = State.reset ∧
      (after (.addressCharacter { data := 1, start := .sinceReset }) State.reset).line.rx = .addressed := by decide

/-- A RESTART that waits for its reply of seven characters, in FAILED, in a transmit state. -/
def restarting (tx : TxState) : State :=
  (at_ .failed).setLine { (replying tx).line with restartWaiting := true }

theorem test_warm_reset_waits_for_the_last_character :
    after .warmReset (restarting .turnaround) = restarting .turnaround ∧
      after .warmReset (restarting (.sending 5)) = restarting (.sending 5) ∧
      (after .warmReset (restarting (.sending 6))).ctl.regime = .off ∧
      (after .warmReset (restarting (.sending 6))).notices.records.map (·.content) = [.regime .failed .off .reset] := by
  decide +kernel

theorem test_both_conditions_of_the_arbiter_rise :
    let due : Qual := { value := false, run := 2 }
    let n := { snapshot 0 0 0 0 0 with results := { (snapshot 0 0 0 0 0).results with vsup := 2340, temp := 3300 } }
    let s := after .snapshotAtArbiter
      (sent { Flight.start with snapArb := [n] }
        (State.reset.setArbiter { State.reset.arbiter with supplyLow := due, overTemp := due }))
    s.notices.records.map (·.content) = [.faultSet .supplyLow .minor, .faultSet .overtemp .minor] := by decide

theorem test_ident_of_station_one :
    answer (after .ident (asks (frame 0x01 []) State.reset)) = some (.ok, [0x1C, 0x34, 0x01, 0x00]) := by decide

theorem test_status_has_56_bytes :
    (answer (after .status (asks (frame 0x02 []) State.reset))).map (·.2.length) = some 56 := by decide

theorem test_numeric_write_is_clamped :
    answer (after .setParam (asks (frame 0x03 [0x04, 0, 0, 0x0F, 0xA0]) State.reset)) =
      some (.clamped, [0x04, 0, 0, 0x0D, 0xAC]) := by decide

theorem test_gain_write_waits_outside_off_and_locked :
    answer (after .setParam (asks (frame 0x03 [0x10, 0, 0, 0, 50]) (at_ .active))) =
      some (.pending, [0x10, 0, 0, 0, 50]) := by decide

theorem test_arm_needs_the_closed_class :
    answer (after .arm (asks (frame 0x07 [1]) State.reset)) = some (.refusedState, []) := by decide

theorem test_unknown_code_of_command :
    answer (after .commandCodeOutOfRange (asks (frame 0x07 [6]) State.reset)) = some (.refusedRange, []) := by decide

theorem test_fault_clear_names_reserved_bits :
    answer (after .faultClear (asks (frame 0x09 [0x40, 0x00]) State.reset)) = some (.refusedRange, []) := by decide

theorem test_event_read_takes_zero_as_one :
    answer (after .eventRead (asks (frame 0x0C [0]) State.reset)) = some (.clamped, [0, 0]) := by decide

theorem test_acq_config_brings_three_to_two :
    answer (after .acqConfig (asks (frame 0x0E [1, 3]) State.reset)) = some (.clamped, [1, 2]) := by decide

/-! ## States and operands that meet the hypotheses of the statements -/

theorem test_meets_StepRunsFrontCommand :
    { State.reset with pending := [.pullInEnd] }.pending = .pullInEnd :: [] ∧ State.reset.pending = [] := ⟨rfl, rfl⟩

theorem test_meets_EveryCommandAnswers :
    (∀ a b, Instr.pullInEnd ≠ .coldReset a b) ∧ Instr.pullInEnd ≠ .timestampTick := by simp

theorem test_meets_AbsentInputChangesNothing :
    State.reset.flight = Flight.start ∧ State.reset.line.restartWaiting = false ∧
      (∀ c rest, State.reset.flight.clampEvents ≠ .classChange c :: rest) ∧
      (∀ n p rest, State.reset.flight.clampEvents ≠ .lockExpiry n p :: rest) ∧
      (∀ x rest, State.reset.flight.targetMsgs ≠ .set x :: rest) ∧
      (∀ d rest, State.reset.flight.targetMsgs ≠ .decision d :: rest) := by
  simp [State.reset, State.coldStart, Flight.start, StationLine.start]

theorem test_meets_AbsentInputChangesNothing_with_a_reply_or_a_frame :
    let r : Reply := { kind := 0x83, tag := 0x77, status := .ok, payload := [] }
    let f := frame 0x07 [5]
    (replying .turnaround).line.tx = .turnaround ∧ (replying (.sending 5)).line.tx = .sending 5 ∧
      (replying (.sending 5)).line.reply = some r ∧ 5 + 1 < r.chars.length ∧ (asks f State.reset).flight.frames = f :: [] ∧
      (Instr.eventRead, (0x0C : Byte), 1) ∈ requestTable ∧ f.kind ≠ 0x0C ∧ 1 ≤ f.kind.toNat ∧ f.kind.toNat ≤ 15 ∧
      (Instr.lock, (4 : Byte)) ∈ commandTable ∧ f.payload ≠ [4] ∧ (Instr.restart, (5 : Byte)) ∈ commandTable ∧
      f.payload = [5] ∧ (frame 0x02 []).kind ≠ 0x07 := by decide +kernel

theorem test_meets_ColdResetSetsEveryBlock : 0 ≤ 7 ∧ 7 ≤ 7 ∧ 3 ≤ 3 := by decide

theorem test_meets_WarmResetKeepsTheConfiguration :
    let s := restarting (.sending 6)
    let f := frame 0x07 [5] true
    (s.line.restartWaiting = true ∧ s.line.tx = .sending 6 ∧ ∀ r, s.line.reply = some r → r.chars.length ≤ 6 + 1) ∧
      ((restarting .idle).line.restartWaiting = true ∧ (restarting .idle).line.tx = .idle) ∧
      ((asks f (at_ .failed)).asked f [] 0x07 [5] ∧ f.broadcast = true ∧ (asks f (at_ .failed)).ctl.regime = .failed) := by
  refine ⟨⟨rfl, rfl, fun r h => ?_⟩, ⟨rfl, rfl⟩, ⟨rfl, rfl, rfl⟩, rfl, rfl⟩
  injection h with h
  subst h
  decide +kernel

theorem test_meets_ConversionsMakeASnapshot :
    let started : Sequence := { k := .one, done := 0, sum := 0, finished := [0, 1, 2, 3, 4, 5, 6] }
    let running := State.reset.setAcq { State.reset.acq with inFlight := some (.fresh .four) }
    let last := State.reset.setAcq { State.reset.acq with inFlight := some started }
    4095 ≤ 4095 ∧ State.reset.acq.inFlight = none ∧ running.acq.inFlight = some (.fresh .four) ∧
      ((Sequence.fresh .four).take 9).finished.length ≠ 8 ∧ last.acq.inFlight = some started ∧
      (started.take 4095).finished = [0, 1, 2, 3, 4, 5, 6, 4095] := by decide

theorem test_meets_the_statements_of_snapshots :
    let n := flat 15 true
    let s := sent { Flight.start with snapEst := [n], snapClamp := [n], snapTilt := [n], snapSteer := [n], snapArb := [n] }
      State.reset
    s.flight.snapEst = n :: [] ∧ s.flight.snapClamp = n :: [] ∧ s.flight.snapTilt = n :: [] ∧
      s.flight.snapSteer = n :: [] ∧ s.flight.snapArb = n :: [] := by decide

theorem test_meets_EstimateWhileClamped (r : Regime) :
    let e := estimate .held 0 0
    let s := sent { Flight.start with estimates := [e] } (at_ r)
    s.flight.estimates = e :: [] ∧ s.ctl.regime = r := ⟨rfl, rfl⟩

theorem test_meets_EstimateWhileFree (r : Regime) (cause : CaptureCause) (meas : MeasState) :
    let e := estimate meas 0 0
    let s := sent { Flight.start with estimates := [e] } (at_ r (some cause))
    s.flight.estimates = e :: [] ∧ s.ctl.regime = r ∧ s.ctl.cause = some cause ∧ e.meas = meas := ⟨rfl, rfl, rfl, rfl⟩

theorem test_meets_ClassChangeConfirms (c : StrokeClass) :
    (sent { Flight.start with clampEvents := [.classChange c] } State.reset).flight.clampEvents = .classChange c :: [] :=
  rfl

theorem test_meets_LockExpiryTimesOut (n : RunNumber) (p : RunPurpose) :
    (sent { Flight.start with clampEvents := [.lockExpiry n p] } State.reset).flight.clampEvents =
      .lockExpiry n p :: [] := rfl

theorem test_meets_ClampTimersRunOut :
    let s := State.reset.setClamp { ClampCtl.start with solenoid := .pullIn 0, timer := .running .engage 120 0 }
    s.clamp.solenoid = .pullIn 0 ∧ s.clamp.timer = .running .engage 120 0 ∧
      State.reset.clamp.solenoid ≠ .pullIn 0 ∧ ∀ p d, State.reset.clamp.timer ≠ .running p d 0 := by
  refine ⟨rfl, rfl, by decide, fun p d h => ?_⟩
  simp [State.reset, State.coldStart, ClampCtl.start] at h

theorem test_meets_CaptureExpiryIsHandled :
    let s := sent { Flight.start with captureExpiries := [0] } (at_ .capturing (some .speed) (timer := .running 0))
    s.flight.captureExpiries = 0 :: [] ∧ s.ctl.regime = .capturing ∧ s.ctl.capTimer = .running 0 ∧ s.ctl.capRun = 0 ∧
      (at_ .active).ctl.regime ≠ .capturing := by decide

theorem test_meets_MajorFaultForces (r : Regime) :
    let s := sent { Flight.start with notifications := [.leanExcess] } (at_ r (hold := some true))
    let t := s.setEst { Estimator.start with meas := .valid }
    s.flight.notifications = .leanExcess :: [] ∧ s.ctl.regime = r ∧ s.est.meas = .lost ∧ s.ctl.hold = some true ∧
      s.ctl.forced = false ∧
      t.flight.notifications = .leanExcess :: [] ∧ t.ctl.regime = r ∧
      ¬((t.est.meas = .lost ∨ t.tilt.state = .tripped) ∨ FaultKind.leanExcess = .clampPosition ∨
        FaultKind.leanExcess = .staleInput) := by cases r <;> decide

theorem test_meets_SetCommandSetsTheLean :
    (sent { Flight.start with targetMsgs := [.set 4000] } State.reset).flight.targetMsgs = .set 4000 :: [] := rfl

theorem test_meets_ApplyCommandAppliesPendingGains :
    let s := sent { Flight.start with appliesSent := 1 } State.reset
    s.flight.appliesTaken < s.flight.appliesSent := by decide

theorem test_meets_the_statements_of_decisions :
    (∀ d : Decision, (sent { Flight.start with targetMsgs := [.decision d] } State.reset).flight.targetMsgs =
      .decision d :: []) ∧
      (decision .active).regime = .active ∧ (decision .capturing).holds = true ∧
      (decision .failed (some true)).holds = true ∧ (decision .failed (some false)).follows = true ∧
      (decision .off).follows = true := ⟨fun _ => rfl, by decide⟩

theorem test_meets_DemandsOfADecision :
    let c : LeanCommand := { phiCmd := 0, decision := { decision .active with applies := 1 } }
    let s := sent { Flight.start with leanCommands := [c], appliesSent := 1 } State.reset
    let t := sent { Flight.start with leanCommands := [c], appliesSent := 1, appliesTaken := 1 } State.reset
    s.flight.leanCommands = c :: [] ∧ s.flight.appliesTaken < c.decision.applies ∧
      t.flight.leanCommands = c :: [] ∧ c.decision.applies ≤ t.flight.appliesTaken := by decide

theorem test_meets_ArbitrationGrants_and_GrantIsApplied :
    let d : Demands := { dT := 1, dS := 2, limT := 1500, limS := 500 }
    let g : Grants := { gT := 1, gS := 2, limT := 1500, limS := 500 }
    (sent { Flight.start with demands := [d] } State.reset).flight.demands = d :: [] ∧
      (sent { Flight.start with grants := [g] } State.reset).flight.grants = g :: [] := by decide

theorem test_meets_the_statements_of_the_wheel :
    State.reset.wheel.sincePulse = none ∧ min (0 + 199) 500000 < 200 ∧ 200 ≤ min (0 + 200) 500000 ∧
      min (0 + 499999) 500000 < 500000 ∧ 500000 ≤ min (1 + 499999) 500000 ∧
      (State.reset.setWheel { WheelUnit.start with sincePulse := some 0 }).wheel.sincePulse = some 0 ∧
      State.reset.wheel.evalLeft ≤ 1000 ∧ ¬(State.reset.wheel.evalLeft ≤ 999 ∨
        (999 = 0 ∧ State.reset.wheel.sincePulse = some 0)) := by decide

theorem test_meets_ReceiveTable :
    (receiving .addressed [2]).line.tx = .idle ∧ (receiving .addressed [2]).line.rx = .addressed ∧
      State.reset.line.rx ≠ .addressed ∧ 1000 < 1001 ∧ 1000 ≤ 1000 := by decide

theorem test_meets_DataFillsTheFrame :
    let five := [0x02, 0x01, 0x77, 0x9F] ++ [0xBD]
    (receiving .addressed []).line.buffer = [] ∧ (1 : Byte).toNat < 2 ∧ 60 < (61 : Byte).toNat ∧
      2 ≤ (2 : Byte).toNat ∧ (60 : Byte).toNat ≤ 60 ∧
      ([] ++ [60] : List Byte).length ≠ (([] ++ [60] : List Byte).headD 0).toNat + 3 ∧
      five.length = (five.headD 0 : Byte).toNat + 3 ∧ checkBytes (five.take 3) = five.drop 3 ∧
      checkBytes ([0x02, 0x01, 0x77] : List Byte) ≠ [0x9F, 0xBE] := by decide +kernel

theorem test_meets_ReplyOnTheLine :
    let r : Reply := { kind := 0x83, tag := 0x77, status := .ok, payload := [] }
    (replying .turnaround).line.tx = .turnaround ∧ 100 ≤ 100 ∧ 99 < 100 ∧ State.reset.line.tx ≠ .turnaround ∧
      (replying (.sending 6)).line.tx = .sending 6 ∧ (replying (.sending 6)).line.reply = some r ∧
      r.chars.length = 7 ∧ r.chars[0]? = some { data := 0, mark := true, stop := true } ∧ r.chars[6]?.isSome = true ∧
      ({ data := 5, mark := true, stop := true } : LineChar) ≠ { data := 0, mark := true, stop := true } ∧
      ({ data := 0, mark := false, stop := true } : LineChar) ≠ { data := 0, mark := true, stop := true } := by
  decide +kernel

/-- Every statement of a request has a state in every regime, by broadcast or not, with any request in front. -/
theorem test_meets_the_statements_of_requests (r : Regime) (cause : Option CaptureCause) (kind : Byte)
    (payload : List Byte) (b : Bool) :
    let f := frame kind payload b
    (asks f (at_ r cause)).asked f [] kind payload ∧ f.broadcast = b ∧ (asks f (at_ r cause)).ctl.regime = r ∧
      (asks f (at_ r cause)).ctl.cause = cause := ⟨⟨rfl, rfl, rfl⟩, rfl, rfl, rfl⟩

theorem test_meets_RequestTests :
    (frame 0 []).kind.toNat = 0 ∧ 15 < (frame 16 []).kind.toNat ∧ 15 < (frame 255 []).kind.toNat ∧ (Instr.mapWrite, (0x05 : Byte), 19) ∈ requestTable ∧
      (frame 5 []).payload.length ≠ 19 ∧ (frame 5 []).kind ≠ 0x03 ∧ (frame 5 []).kind ≠ 0x07 ∧
      (0 : Byte).toNat = 0 ∧ 5 < (6 : Byte).toNat := by decide

theorem test_meets_ReadRequestsReply :
    (0x0F : Byte) ∉ Params.start.byId.map Prod.fst ∧ (0x0F : Byte) ∉ gainIds.map Prod.fst ∧
      ((0x45 : Byte), (400 : Int)) ∈ Params.start.byId ∧ ((0x16 : Byte), Gain.wMax) ∈ gainIds ∧ 7 < (8 : Byte).toNat ∧
      (7 : Byte).toNat < 8 ∧ (13 : Byte).toNat = FaultKind.captureSlow.id.toNat ∧ 13 < (14 : Byte).toNat ∧
      (14 : Byte) ≠ 255 := by decide

theorem test_meets_SetParamWritesOneParameter :
    ParamId.ofByte 0x46 = none ∧ ParamId.ofByte 0x02 = some (.num .vRelease) ∧ ParamId.ofByte 0x45 = some (.cal .sS) ∧
      CalParam.sS.admits 1024 = true ∧ CalParam.sS.admits 0 = false ∧ ParamId.ofByte 0x01 = some .mode ∧
      Mode.manual.toInt = 1 ∧ ParamId.ofByte 0x0B = some .releaseTmo ∧ ParamId.ofByte 0x0C = some .engageTmo ∧
      TimeoutCode.code5.toInt = 5 ∧ ParamId.ofByte 0x25 = some .steerTripAct ∧ TripAct.report.toInt = 1 ∧
      ParamId.ofByte 0x32 = some .counterMode ∧ CounterMode.saturate.toInt = 1 := by decide

theorem test_meets_SetParamOfAGain : ParamId.ofByte 0x15 = some (.gain .vbHi) := rfl

theorem test_meets_MapWriteReplacesARow :
    (parseRow (7 :: List.replicate 18 0)).isSome = true ∧ (parseRow (8 :: List.replicate 18 0)).isSome = true ∧
      (∃ x ∈ (#v[4501, 0, 0, 0, 0, 0, 0, 0, 0] : Vector Int 9).toList, x < -4500 ∨ 4500 < x) ∧
      (∀ x ∈ (#v[4500, 0, 0, 0, 0, 0, 0, 0, -4500] : Vector Int 9).toList, -4500 ≤ x ∧ x ≤ 4500) := by decide

theorem test_meets_FaultClearClears :
    let bits : BitVec 16 := (0x3F : Byte) ++ (0xFF : Byte)
    bits.getLsbD 14 = false ∧ bits.getLsbD 15 = false ∧ ((0x40 : Byte) ++ (0 : Byte) : BitVec 16).getLsbD 14 = true ∧
      ((0x80 : Byte) ++ (0 : Byte) : BitVec 16).getLsbD 15 = true := by decide

theorem test_meets_FaultConfigWrites_and_CounterReadReports :
    13 < (14 : Byte).toNat ∧ (13 : Byte).toNat = FaultKind.captureSlow.id.toNat ∧ (1 : Byte).toNat ≤ 1 ∧
      1 < (2 : Byte).toNat ∧ 15 < (16 : Byte).toNat ∧ (15 : Byte).toNat = CounterId.faultsSet.id.toNat ∧
      (2 : Byte).toNat ≤ 2 ∧ 2 < (3 : Byte).toNat := by decide

theorem test_meets_AcquisitionRequests :
    let single := State.reset.setAcq { State.reset.acq with scanMode := .single }
    7 < (8 : Byte).toNat ∧ 2 < (3 : Byte).toNat ∧ Input.byNumber (7 : Byte).toNat = some .temp ∧ (2 : Byte).toNat ≤ 2 ∧
      1 < (2 : Byte).toNat ∧ single.acq.scanMode = .single ∧ single.acq.inFlight = none ∧
      single.acq.singleWaiting = false ∧ State.reset.acq.scanMode = .continuous := by decide

theorem test_meets_QualifiersTakeThree :
    let q : ClassQual := { cls := .closed, candidate := some .moving, run := 2 }
    (2 ≤ 2 ∧ true ≠ false) ∧ q.run ≤ 2 ∧ StrokeClass.moving ≠ q.cls ∧ q.candidate = some .moving ∧
      q.candidate ≠ some .opened := by decide

theorem test_meets_PostStoresOrDrops :
    let n : Notice := { content := .standChange true, time := 0, dropped := 255 }
    State.reset.notices.records.length < 16 ∧
      (State.reset.setNotices { State.reset.notices with records := List.replicate 15 n ++ [n] }).notices.records =
        List.replicate 15 n ++ [n] ∧ 15 ≤ (List.replicate 15 n).length := by decide

theorem test_meets_DetectionIsRecorded :
    let masked := setRecord State.reset .barRange { FaultRecord.start .minor with detectMask := true }
    let set := setRecord State.reset .barRange
      { FaultRecord.start .minor with status := some { severity := .minor, time := 0 } }
    (masked.faults.table.get .barRange).detectMask = true ∧
      (State.reset.faults.table.get .barRange).detectMask = false ∧
      (State.reset.faults.table.get .barRange).status = none ∧ (set.faults.table.get .barRange).detectMask = false ∧
      (set.faults.table.get .barRange).status = some { severity := .minor, time := 0 } := by decide

theorem test_meets_ChannelsAndSolenoidObey :
    (State.reset.tilt.told true).state = .on ∧ State.reset.tilt.state = .off ∧ State.reset.tilt.trip.state = .tripped := by
  decide

/-- A state other than the one after reset, with a command in front. -/
def ticking : State := { State.coldStart 7 3 with pending := [.timestampTick] }

theorem test_meets_the_statements_of_laws_step : step ticking = .next (after .timestampTick (State.coldStart 7 3)) := rfl

theorem test_meets_RegimeLawsAreKept : ticking.SolenoidLaw ∧ ticking.RegimeLaw ∧ ticking.ScanLaw := by
  refine ⟨fun h => absurd rfl h, ?_, fun _ => rfl, fun h => absurd h (by decide)⟩
  constructor <;> simp [ticking, State.coldStart, RegimeCtl.start]

theorem test_meets_ChannelLawsAreKept : ticking.ChannelLaw ∧ ticking.TripLaw := by
  refine ⟨⟨⟨?_, ?_, ?_⟩, ?_, ?_, ?_⟩, ⟨fun k => ?_, by decide, by decide⟩⟩
  all_goals first | decide | (cases k <;> decide)

theorem test_meets_ReportingLawsAreKept : ticking.FaultLaw ∧ ticking.NoticeLaw :=
  ⟨⟨rfl, rfl, fun p h => by simp [ticking, State.coldStart, FaultUnit.start] at h⟩, by constructor <;> decide⟩

theorem test_meets_RangeLawsAreKept : ticking.ParamLaw ∧ ticking.GainLaw := by
  refine ⟨⟨fun n => ?_, by decide, by decide, fun c => ?_⟩, ⟨fun g => ?_, fun g x h => ?_, by decide⟩⟩
  · cases n <;> decide
  · cases c <;> decide
  · cases g <;> decide
  · cases g <;> simp [ticking, State.coldStart, ControlLaw.start, PerGain.all, PerGain.get] at h

theorem test_meets_LeanLawsAreKept : ticking.CommandLaw ∧ ticking.WheelLaw ∧ ticking.RingLaw := by
  refine ⟨by constructor <;> decide, ⟨by decide, by decide, ?_, ?_, by decide⟩, by constructor <;> decide⟩ <;>
    (intro t h; simp [ticking, State.coldStart, WheelUnit.start] at h)

theorem test_meets_LimitLawIsKept : ticking.LimitLaw := by
  constructor <;> first | decide | (unfold Within; decide)

theorem test_meets_LineLawIsKept : ticking.LineLaw := by constructor <;> decide

end Sys2Proof.Tests
end

section
/-! PROOFS. Tilt regimes, the laws: what a step can do to the regime controller, the solenoid and the scan mode, said
once; and the laws that each such move keeps. -/

namespace Sys2Proof.Machine

/-! ## The moves -/

/-- What the regime laws read of a state. -/
structure RegimeView where
  ctl : RegimeCtl
  solenoid : Solenoid
  scanMode : ScanMode
  waiting : Bool

/-- What the regime laws read of this state. -/
def State.regimeView (s : State) : RegimeView :=
  { ctl := s.ctl, solenoid := s.clamp.solenoid, scanMode := s.acq.scanMode, waiting := s.acq.singleWaiting }

/-- The moves of the regime controller with the solenoid and the scan mode, each with the condition under which it is
made (01 R1 to R30, 03 R45 to R51). -/
inductive RegimeMove : RegimeView → RegimeView → Prop
  | reset (v : RegimeView) (run : RunNumber) :
      RegimeMove v
        { ctl := { RegimeCtl.start with capRun := run }, solenoid := .deEnergized, scanMode := .continuous,
          waiting := false }
  | tick (v : RegimeView) :
      RegimeMove v
        { v with ctl := { v.ctl with capTimer := v.ctl.capTimer.tick }, solenoid := v.solenoid.tick }
  | pullInEnd (v : RegimeView) (left : Nat) (h : v.solenoid = .pullIn left) :
      RegimeMove v { v with solenoid := .holding }
  | singleTaken (v : RegimeView) : RegimeMove v { v with waiting := false }
  | configured (v : RegimeView) (mode : ScanMode) (h : mode = .single → v.ctl.regime = .off) :
      RegimeMove v { v with scanMode := mode, waiting := false }
  | singleAsked (v : RegimeView) (h : v.scanMode = .single) : RegimeMove v { v with waiting := true }
  | estimated (v : RegimeView) (e : LatestEstimate) : RegimeMove v { v with ctl := { v.ctl with latest := e } }
  | armed (v : RegimeView) (h : v.ctl.regime = .off) (scan : v.scanMode = .continuous) :
      RegimeMove v { v with ctl := { v.ctl with regime := .locked } }
  | disarmed (v : RegimeView) (h : v.ctl.regime = .locked) :
      RegimeMove v { v with ctl := { v.ctl with regime := .off } }
  | released (v : RegimeView) (h : v.ctl.regime = .locked) :
      RegimeMove v
        { v with
          ctl := { v.ctl with regime := .releasing, purpose := some .release }, solenoid := v.solenoid.energize }
  | releaseConfirmed (v : RegimeView) (h : v.ctl.regime = .releasing) :
      RegimeMove v { v with ctl := { v.ctl with regime := .active, purpose := none } }
  | releaseTimedOut (v : RegimeView) (h : v.ctl.regime = .releasing) :
      RegimeMove v { v with ctl := { v.ctl with regime := .locked, purpose := none }, solenoid := .deEnergized }
  | captured (v : RegimeView) (cause : CaptureCause) (p : Params) (h : v.ctl.regime = .active) :
      RegimeMove v
        { v with
          ctl := { v.ctl.startCapture p with
            regime := .capturing, cause := some cause, forced := decide (cause = .fault) } }
  | captureForced (v : RegimeView) (p : Params) (h : v.ctl.regime = .capturing) :
      RegimeMove v { v with ctl := { v.ctl.startCapture p with cause := some .fault, forced := true } }
  | captureByRequest (v : RegimeView) (h : v.ctl.regime = .capturing) (cause : v.ctl.cause = some .speed) :
      RegimeMove v { v with ctl := { v.ctl with cause := some .request } }
  | captureSlow (v : RegimeView) (h : v.ctl.regime = .capturing) :
      RegimeMove v { v with ctl := { v.ctl with capTimer := .expired } }
  | captureAborted (v : RegimeView) (h : v.ctl.regime = .capturing) (cause : v.ctl.cause ≠ some .fault) :
      RegimeMove v { v with ctl := { v.ctl with regime := .active, cause := none, capTimer := .stopped } }
  | engaged (v : RegimeView) (forced hold : Bool)
      (h : v.ctl.regime = .releasing ∨ v.ctl.regime = .active ∨ v.ctl.regime = .capturing) :
      RegimeMove v
        { v with
          ctl := { v.ctl with
            regime := .engaging, cause := none, forced := forced, hold := some hold, purpose := some .engage,
            capTimer := .stopped }
          solenoid := .deEnergized }
  | engagementConfirmed (v : RegimeView) (h : v.ctl.regime = .engaging) :
      RegimeMove v { v with ctl := { v.ctl with regime := .locked, purpose := none, hold := none, forced := false } }
  | engagementTimedOut (v : RegimeView) (h : v.ctl.regime = .engaging) :
      RegimeMove v { v with ctl := { v.ctl with regime := .failed, purpose := none, forced := false } }
  | holdEnded (v : RegimeView) (h : v.ctl.hold = some true) :
      RegimeMove v { v with ctl := { v.ctl with hold := some false } }

/-- Any number of moves, one after another. -/
inductive RegimeMoves (v : RegimeView) : RegimeView → Prop
  | refl : RegimeMoves v v
  | tail {u w : RegimeView} (before : RegimeMoves v u) (last : RegimeMove u w) : RegimeMoves v w

theorem RegimeMoves.single {v w : RegimeView} (m : RegimeMove v w) : RegimeMoves v w := .tail .refl m

theorem RegimeMoves.trans {u v w : RegimeView} (first : RegimeMoves u v) (second : RegimeMoves v w) :
    RegimeMoves u w := by
  induction second with
  | refl => exact first
  | tail _ last ih => exact ih.tail last

/-! ## What each move keeps -/

/-- The solenoid law, of a view. -/
def RegimeView.SolenoidLaw (v : RegimeView) : Prop :=
  v.solenoid ≠ .deEnergized → v.ctl.regime = .releasing ∨ v.ctl.regime = .active ∨ v.ctl.regime = .capturing

/-- The scan law, of a view. -/
def RegimeView.ScanLaw (v : RegimeView) : Prop :=
  (v.scanMode = .single → v.ctl.regime = .off) ∧ (v.waiting = true → v.scanMode = .single)

theorem State.solenoidLaw_iff (s : State) : s.SolenoidLaw ↔ s.regimeView.SolenoidLaw := Iff.rfl
theorem State.regimeLaw_iff (s : State) : s.RegimeLaw ↔ s.regimeView.ctl.Consistent := Iff.rfl
theorem State.scanLaw_iff (s : State) : s.ScanLaw ↔ s.regimeView.ScanLaw := Iff.rfl

theorem Solenoid.tick_eq_deEnergized {x : Solenoid} : x.tick = .deEnergized ↔ x = .deEnergized := by
  cases x <;> simp [Solenoid.tick]

theorem CaptureTimer.tick_eq_stopped {x : CaptureTimer} : x.tick = .stopped ↔ x = .stopped := by
  cases x <;> simp [CaptureTimer.tick]

/-- A move out of the three free regimes de-energizes the solenoid, and only a release energizes it. -/
theorem RegimeMove.solenoidLaw {v w : RegimeView} (m : RegimeMove v w) (hv : v.SolenoidLaw) : w.SolenoidLaw := by
  unfold RegimeView.SolenoidLaw at *
  cases m
  case tick => simpa [Solenoid.tick_eq_deEnergized] using hv
  all_goals simp_all [RegimeCtl.startCapture]

/-- The regime leaves OFF by ARM alone, and that in CONTINUOUS mode. -/
theorem RegimeMove.scanLaw {v w : RegimeView} (m : RegimeMove v w) (hv : v.ScanLaw) : w.ScanLaw := by
  unfold RegimeView.ScanLaw at *
  obtain ⟨hoff, hwait⟩ := hv
  cases m
  case engaged h => rcases h with h | h | h <;> simp_all
  all_goals simp_all [RegimeCtl.startCapture]

/-- Each move brings every piece of the controller to where its new regime has it. -/
theorem RegimeMove.consistent {v w : RegimeView} (m : RegimeMove v w) (hv : v.ctl.Consistent) : w.ctl.Consistent := by
  obtain ⟨hcause, hwhere, hforced, hhold, hrelease, hengage, htimer⟩ := hv
  cases m
  case tick => constructor <;> simp_all [CaptureTimer.tick_eq_stopped]
  all_goals constructor <;> simp_all [RegimeCtl.start, RegimeCtl.startCapture]

/-! ## Every step is made of moves -/

/-- An update of blocks that the view does not read leaves it. -/
theorem State.regimeView_eq {s t : State} (ctl : t.ctl = s.ctl) (solenoid : t.clamp.solenoid = s.clamp.solenoid)
    (acq : t.acq = s.acq) : t.regimeView = s.regimeView := by
  simp [State.regimeView, ctl, solenoid, acq]

@[simp] theorem increment_regimeView (s : State) (id : CounterId) : (increment s id).regimeView = s.regimeView :=
  State.regimeView_eq (by simp) (by simp) (by simp)

@[simp] theorem putReply_regimeView (s : State) (f : Frame) (st : Status) (p : List Byte) :
    (putReply s f st p).regimeView = s.regimeView :=
  State.regimeView_eq (by simp) (by simp) (by simp)

@[simp] theorem setLine_regimeView (s : State) (x : StationLine) : (s.setLine x).regimeView = s.regimeView := rfl

@[simp] theorem setFlight_regimeView (s : State) (x : Flight) : (s.setFlight x).regimeView = s.regimeView := rfl

/-- The warm reset is one move, whatever the state. -/
theorem warmReset_move (s : State) : RegimeMove s.regimeView (warmReset s).regimeView := by
  have view : (warmReset s).regimeView = (warmBlocks s).regimeView := by
    unfold warmReset; split
    · rfl
    · exact State.regimeView_eq (by simp) (by simp) (by simp)
  exact view ▸ .reset _ s.ctl.capRun

/-- Entry to RELEASING, from LOCKED alone. -/
theorem enterReleasing_move {s : State} (h : s.ctl.regime = .locked) (cause : NoticeCause) :
    RegimeMove s.regimeView (enterReleasing s cause).regimeView := by
  simpa [State.regimeView] using RegimeMove.released s.regimeView h

/-- Entry to CAPTURING, from ACTIVE alone. -/
theorem enterCapturing_move {s : State} (h : s.ctl.regime = .active) (cause : CaptureCause) :
    RegimeMove s.regimeView (enterCapturing s cause).regimeView := by
  simpa [State.regimeView, enterCapturing] using RegimeMove.captured s.regimeView cause s.params h

/-- Entry to ENGAGING, from the three free regimes alone. -/
theorem enterEngaging_move {s : State}
    (h : s.ctl.regime = .releasing ∨ s.ctl.regime = .active ∨ s.ctl.regime = .capturing) (forced mayHold : Bool)
    (cause : NoticeCause) : RegimeMove s.regimeView (enterEngaging s forced mayHold cause).regimeView := by
  have := RegimeMove.engaged s.regimeView forced (mayHold && holdPossible (startLock (deEnergize s) .engage)) h
  simpa [State.regimeView, enterEngaging] using this

/-- A capture called off; a forced one never is, since its forced flag would stay. -/
theorem abortCapture_move {s : State} (h : s.ctl.regime = .capturing) (hc : s.ctl.cause ≠ some .fault)
    (cause : NoticeCause) : RegimeMove s.regimeView (abortCapture s cause).regimeView := by
  simpa [State.regimeView] using RegimeMove.captureAborted s.regimeView h hc

/-- The end of a hold, where there is one. -/
theorem endHold_moves (s : State) : RegimeMoves s.regimeView (endHold s).regimeView := by
  unfold endHold
  split
  case isTrue h => exact .single (by simpa [State.regimeView] using RegimeMove.holdEnded s.regimeView h)
  case isFalse => exact .refl

/-- The checks of an estimate make at most one move. -/
theorem estimateChecks_moves (e : Estimate) (s : State) : RegimeMoves s.regimeView (estimateChecks e s).regimeView := by
  have hold : RegimeMoves s.regimeView (estimateInHold e s).regimeView := by
    unfold estimateInHold
    split
    · exact endHold_moves s
    · exact .refl
  unfold estimateChecks
  split
  case h_1 => exact .refl
  case h_2 h =>
    unfold estimateInLocked
    split
    · exact .single (enterReleasing_move h _)
    · exact .refl
  case h_3 h =>
    split
    · exact .single (enterEngaging_move (.inl h) _ _ _)
    · exact .refl
  case h_4 h =>
    split
    · exact .single (enterEngaging_move (.inr (.inl h)) _ _ _)
    · unfold estimateInActive
      split
      · exact .single (enterCapturing_move h _)
      · split
        · exact .single (enterCapturing_move h _)
        · exact .refl
  case h_5 h =>
    split
    · exact .single (enterEngaging_move (.inr (.inr h)) _ _ _)
    · unfold estimateInCapturing
      split
      case isTrue due =>
        refine .single (abortCapture_move h ?_ _)
        simp only [abortDue, Bool.and_eq_true, decide_eq_true_eq] at due
        simp [due.1.1.2]
      case isFalse =>
        split
        · exact .single (enterEngaging_move (.inr (.inr h)) _ _ _)
        · exact .refl
  case h_6 => exact hold
  case h_7 => exact hold

/-- An estimate: the latest is replaced, then its checks. -/
theorem takeEstimate_moves (e : Estimate) (s : State) : RegimeMoves s.regimeView (takeEstimate e s).regimeView :=
  (RegimeMoves.single (RegimeMove.estimated s.regimeView (latestOf e))).trans
    (estimateChecks_moves e (s.setCtl { s.ctl with latest := latestOf e }))

/-- A class change confirms a release or an engagement, or ends a hold. -/
theorem takeClassChange_moves (c : StrokeClass) (s : State) :
    RegimeMoves s.regimeView (takeClassChange c s).regimeView := by
  unfold takeClassChange
  split
  case h_1 h =>
    exact .single (by simpa [State.regimeView, confirmRelease] using RegimeMove.releaseConfirmed s.regimeView h)
  case h_2 h =>
    exact .single (by simpa [State.regimeView, confirmEngagement] using RegimeMove.engagementConfirmed s.regimeView h)
  case h_3 => exact endHold_moves s
  case h_4 => exact .refl

/-- A lock timer expiry ends a release in LOCKED, an engagement in FAILED. -/
theorem takeLockExpiry_moves (run : RunNumber) (s : State) :
    RegimeMoves s.regimeView (takeLockExpiry run s).regimeView := by
  unfold takeLockExpiry
  split
  case isFalse => exact .refl
  case isTrue =>
    split
    case h_1 h _ =>
      exact .single (by simpa [State.regimeView, releaseTimedOut] using RegimeMove.releaseTimedOut s.regimeView h)
    case h_2 h _ =>
      exact .single (by simpa [State.regimeView, engageTimedOut] using RegimeMove.engagementTimedOut s.regimeView h)
    case h_3 => exact .refl

/-- A capture timer expiry moves the controller in CAPTURING alone. -/
theorem takeCaptureExpiry_moves (run : RunNumber) (s : State) :
    RegimeMoves s.regimeView (takeCaptureExpiry run s).regimeView := by
  unfold takeCaptureExpiry
  split
  case h_2 => exact .refl
  case h_1 h _ =>
    split
    case isFalse => exact .refl
    case isTrue =>
      split
      · exact .single (enterEngaging_move (.inr (.inr h)) _ _ _)
      · exact .single (by simpa [State.regimeView] using RegimeMove.captureSlow s.regimeView h)

/-- A major-fault notification, by regime. -/
theorem takeNotification_moves (k : FaultKind) (s : State) :
    RegimeMoves s.regimeView (takeNotification k s).regimeView := by
  have hold : RegimeMoves s.regimeView (if leanOutOfHand s then endHold s else s).regimeView := by
    split
    · exact endHold_moves s
    · exact .refl
  unfold takeNotification
  dsimp only
  split
  case h_1 => exact .refl
  case h_2 => exact .refl
  case h_3 h => exact .single (enterEngaging_move (.inl h) _ _ _)
  case h_4 h =>
    split
    · exact .single (enterEngaging_move (.inr (.inl h)) _ _ _)
    · exact .single (enterCapturing_move h _)
  case h_5 h =>
    split
    · exact .single (enterEngaging_move (.inr (.inr h)) _ _ _)
    · split
      · exact .refl
      · have := RegimeMove.captureForced s.regimeView s.params h
        exact .single (by simpa [State.regimeView, forceCapture] using this)
  case h_6 => exact hold
  case h_7 => exact hold

/-! ### The host's commands -/

/-- ARM leaves OFF, and past its scan test. -/
theorem takeArm_moves (s : State) : RegimeMoves s.regimeView (takeArm s).state.regimeView := by
  unfold takeArm
  split
  case h_1 h =>
    split
    · exact .refl
    · split
      · exact .refl
      · split
        case isTrue => exact .refl
        case isFalse scan =>
          have := RegimeMove.armed s.regimeView h (Decidable.not_not.mp scan)
          exact .single (by simpa [State.regimeView, commandOk] using this)
  all_goals exact .refl

/-- DISARM enters OFF from LOCKED. -/
theorem takeDisarm_moves (s : State) : RegimeMoves s.regimeView (takeDisarm s).state.regimeView := by
  unfold takeDisarm
  split
  case h_1 h => exact .single (by simpa [State.regimeView, commandOk] using RegimeMove.disarmed s.regimeView h)
  all_goals exact .refl

/-- RELEASE enters RELEASING, or calls off a capture whose cause is not FAULT. -/
theorem takeRelease_moves (s : State) : RegimeMoves s.regimeView (takeRelease s).state.regimeView := by
  unfold takeRelease
  split
  case h_1 h =>
    unfold releaseFromLocked
    split
    · exact .single (enterReleasing_move h _)
    · split <;> exact .refl
  case h_7 h =>
    unfold releaseFromCapturing
    split
    case isTrue => exact .refl
    case isFalse refused =>
      split
      · exact .refl
      · exact .single (abortCapture_move h (fun hc => refused (.inl hc)) _)
  all_goals exact .refl

/-- LOCK abandons a release, begins a capture, or takes over one by speed. -/
theorem takeLock_moves (s : State) : RegimeMoves s.regimeView (takeLock s).state.regimeView := by
  unfold takeLock
  split
  case h_5 h => exact .single (enterEngaging_move (.inl h) _ _ _)
  case h_6 h => exact .single (enterCapturing_move h _)
  case h_7 h =>
    split
    case isTrue hc =>
      have := RegimeMove.captureByRequest s.regimeView h hc
      exact .single (by simpa [State.regimeView, commandOk] using this)
    case isFalse => exact .refl
  all_goals exact .refl

/-! ### The sequencer -/

@[simp] theorem detect_regimeView (s : State) (k : FaultKind) : (detect s k).regimeView = s.regimeView :=
  State.regimeView_eq (by simp) (by simp) (by simp)

/-- Settling a period writes, of the sequencer, the missed count alone. -/
@[simp] theorem settlePeriod_regimeView (s : State) : (settlePeriod s).regimeView = s.regimeView := by
  unfold settlePeriod
  dsimp only
  split
  · split
    · split <;> simp [State.regimeView]
    · simp
  · rfl

theorem Sequencer.startPeriod_scanMode (q : Sequencer) : q.startPeriod.scanMode = q.scanMode := by
  unfold Sequencer.startPeriod
  dsimp only
  split
  · rfl
  · split <;> rfl

/-- A period start takes the single request that waits, or leaves the mark as it is. -/
theorem Sequencer.startPeriod_singleWaiting (q : Sequencer) :
    q.startPeriod.singleWaiting = q.singleWaiting ∨ q.startPeriod.singleWaiting = false := by
  unfold Sequencer.startPeriod
  dsimp only
  split
  · exact .inl rfl
  · split
    · exact .inr rfl
    · exact .inl rfl

/-- A period start, at the sequencer. -/
theorem startPeriod_moves (s : State) : RegimeMoves s.regimeView (s.setAcq s.acq.startPeriod).regimeView := by
  rcases s.acq.startPeriod_singleWaiting with h | h
  · simp [State.regimeView, Sequencer.startPeriod_scanMode, h, RegimeMoves.refl]
  · have := RegimeMove.singleTaken s.regimeView
    exact .single (by simpa [State.regimeView, Sequencer.startPeriod_scanMode, h] using this)

theorem execAcquisitionPeriodStart_moves {s t : State} (h : execAcquisitionPeriodStart s = .next t) :
    RegimeMoves s.regimeView t.regimeView := by
  cases h
  have settled : (if s.acq.awaitingFirst then s.setAcq { s.acq with inFlight := none }
      else settlePeriod (s.setAcq { s.acq with inFlight := none })).regimeView = s.regimeView := by
    split
    · rfl
    · exact settlePeriod_regimeView _
  exact settled ▸ startPeriod_moves _

/-- A conversion writes neither the scan mode nor the single request. -/
theorem execConversionComplete_regimeView {r : Nat} {l : StandLevel} {s t : State}
    (h : execConversionComplete r l s = .next t) : t.regimeView = s.regimeView := by
  unfold execConversionComplete at h
  split at h
  · cases h; rfl
  · dsimp only at h
    split at h <;> cases h <;> rfl

/-- A sample read writes its mark of freshness alone. -/
theorem takeSampleRead_regimeView (i f : Byte) (s : State) :
    (takeSampleRead i f s).state.regimeView = s.regimeView := by
  unfold takeSampleRead
  split
  · rfl
  · split <;> rfl

/-- ACQ_CONFIG sets SINGLE in OFF alone. -/
theorem takeAcqConfig_moves (m n : Byte) (s : State) :
    RegimeMoves s.regimeView (takeAcqConfig m n s).state.regimeView := by
  unfold takeAcqConfig
  split
  · exact .single (.configured s.regimeView .continuous (fun h => nomatch h))
  · split
    · split
      case isTrue h => exact .single (.configured s.regimeView .single (fun _ => h))
      case isFalse => exact .refl
    · exact .refl

/-- ACQ_SINGLE waits in SINGLE mode alone. -/
theorem takeAcqSingle_moves (s : State) : RegimeMoves s.regimeView (takeAcqSingle s).state.regimeView := by
  unfold takeAcqSingle
  split
  case isTrue h => exact .single (.singleAsked s.regimeView h.1)
  case isFalse => exact .refl

/-- A snapshot does not move the solenoid. -/
theorem takeSnapshotAtClamp_solenoid (n : Snapshot) (s : State) :
    (takeSnapshotAtClamp n s).clamp.solenoid = s.clamp.solenoid := by
  unfold takeSnapshotAtClamp
  dsimp only
  split <;> split <;> simp [ClampCtl.next]

/-! ### The clocks, the characters, and the whole -/

theorem execTimestampTick_moves {s t : State} (h : execTimestampTick s = .next t) :
    RegimeMoves s.regimeView t.regimeView := by
  cases h
  refine .single ?_
  split <;> exact .tick s.regimeView

theorem execPullInEnd_moves {s t : State} (h : execPullInEnd s = .next t) : RegimeMoves s.regimeView t.regimeView := by
  unfold execPullInEnd at h
  split at h <;> cases h
  case h_1 h => exact .single (.pullInEnd s.regimeView 0 h)
  all_goals exact .refl

/-- The event of each block moves the view by a chain of moves, or leaves it alone. -/
theorem keeps_regimeMoves (v : RegimeView) : Keeps fun s => RegimeMoves v s.regimeView := by
  have same : ∀ {s t : State}, RegimeMoves v s.regimeView → t.ctl = s.ctl → t.clamp.solenoid = s.clamp.solenoid →
      t.acq = s.acq → RegimeMoves v t.regimeView := fun hs ctl solenoid acq => State.regimeView_eq ctl solenoid acq ▸ hs
  exact
    { flight := fun _ _ hs _ _ => hs
      cold := fun _ _ _ => .single (.reset v 0)
      warm := fun s hs => hs.tail (warmReset_move s)
      tick := fun _ _ hs h => hs.trans (execTimestampTick_moves h)
      period := fun _ _ hs h => hs.trans (execAcquisitionPeriodStart_moves h)
      conversion := fun _ _ _ _ hs h => execConversionComplete_regimeView h ▸ hs
      estimator := fun _ _ hs => same hs (by simp) (by simp) (by simp)
      clamp := fun n s hs => same hs (by simp) (takeSnapshotAtClamp_solenoid n s) (by simp)
      tilt := fun _ _ hs => same hs (by simp) (by simp) (by simp)
      steer := fun _ _ hs => same hs (by simp) (by simp) (by simp)
      arbiter := fun _ _ hs => same hs (by simp) (by simp) (by simp)
      estimate := fun e s hs => hs.trans (takeEstimate_moves e s)
      classChange := fun c s hs => hs.trans (takeClassChange_moves c s)
      pullIn := fun _ _ hs h => hs.trans (execPullInEnd_moves h)
      lockTimer := fun _ _ hs h => by
        obtain ⟨ctl, acq, -, -, -, -, -, -, -, -, -, -, -, -, -, solenoid, -⟩ := execLockTimerExpiry_frame h
        exact same hs ctl solenoid acq
      lockExpiry := fun r s hs => hs.trans (takeLockExpiry_moves r s)
      captureExpiry := fun r s hs => hs.trans (takeCaptureExpiry_moves r s)
      notification := fun k s hs => hs.trans (takeNotification_moves k s)
      set := fun _ _ hs => hs
      apply := fun _ hs => hs
      decision := fun _ _ hs => same hs (by simp) (by simp) (by simp)
      leanCommand := fun _ _ hs => hs
      demands := fun _ _ _ hs _ => same hs (by simp) (by simp) (by simp)
      grants := fun _ _ _ hs _ => hs
      pulse := fun _ _ _ hs h => by
        obtain ⟨ctl, clamp, acq, -⟩ := execWheelPulse_frame h
        exact same hs ctl (clamp ▸ rfl) acq
      evaluation := fun _ _ _ hs h => by
        obtain ⟨ctl, clamp, acq, -⟩ := execEvaluationTimerExpiry_frame h
        exact same hs ctl (clamp ▸ rfl) acq
      character := fun c s hs =>
        takeCharacter_ind (fun s => RegimeMoves v s.regimeView) (fun _ _ hs => hs)
          (fun s id hs => (increment_regimeView s id).symm ▸ hs) (fun _ _ hs => hs)
          (fun s hs => hs.tail (warmReset_move s)) c s hs
      gap := fun _ _ _ hs h => by
        obtain ⟨ctl, clamp, acq, -⟩ := execGapTimerExpiry_frame h
        exact same hs ctl (clamp ▸ rfl) acq
      turnaround := fun _ _ _ hs h => by
        obtain ⟨ctl, clamp, acq, -⟩ := execTurnaroundExpiry_frame h
        exact same hs ctl (clamp ▸ rfl) acq
      reply := fun s f st p hs => (putReply_regimeView s f st p).symm ▸ hs
      setParam := fun _ _ _ hs => same hs (by simp) (by simp) (by simp)
      mapWrite := fun _ _ _ hs => same hs (by simp) (by simp) (by simp)
      arm := fun s hs => hs.trans (takeArm_moves s)
      disarm := fun s hs => hs.trans (takeDisarm_moves s)
      release := fun s hs => hs.trans (takeRelease_moves s)
      lock := fun s hs => hs.trans (takeLock_moves s)
      restart := fun f s hs =>
        takeRestart_ind (fun s => RegimeMoves v s.regimeView) (fun _ _ hs => hs)
          (fun s f st p hs => (putReply_regimeView s f st p).symm ▸ hs) (fun s hs => hs.tail (warmReset_move s)) f s hs
      faultClear := fun _ _ hs => same hs (by simp) (by simp) (by simp)
      faultConfig := fun _ _ _ _ _ hs => same hs (by simp) (by simp) (by simp)
      counterRead := fun _ _ _ _ hs => same hs (by simp) (by simp) (by simp)
      eventRead := fun _ _ hs => same hs (by simp) (by simp) (by simp)
      sampleRead := fun i f s hs => (takeSampleRead_regimeView i f s).symm ▸ hs
      acqConfig := fun m n s hs => hs.trans (takeAcqConfig_moves m n s)
      acqSingle := fun s hs => hs.trans (takeAcqSingle_moves s) }

/-- Every step is a chain of moves. -/
theorem step_regimeMoves {s t : State} (h : step s = .next t) : RegimeMoves s.regimeView t.regimeView :=
  (keeps_regimeMoves s.regimeView).step (fun _ _ hs => hs) .refl h

/-- What each move keeps, every chain of moves keeps. -/
theorem RegimeMoves.keeps {v w : RegimeView} (moves : RegimeMoves v w) {P : RegimeView → Prop}
    (each : ∀ {v w}, RegimeMove v w → P v → P w) (hv : P v) : P w := by
  induction moves with
  | refl => exact hv
  | tail _ last ih => exact each last ih

/-- Settles O54: every step is a chain of moves of the regime controller, and each move keeps the three laws. -/
theorem regimeLawsAreKept : Obligations.RegimeLawsAreKept := by
  intro s t h
  have moves : RegimeMoves s.regimeView t.regimeView := step_regimeMoves h
  rw [s.solenoidLaw_iff, t.solenoidLaw_iff, s.regimeLaw_iff, t.regimeLaw_iff, s.scanLaw_iff, t.scanLaw_iff]
  exact ⟨moves.keeps (P := RegimeView.SolenoidLaw) RegimeMove.solenoidLaw,
    moves.keeps (P := fun v => v.ctl.Consistent) RegimeMove.consistent,
    moves.keeps (P := RegimeView.ScanLaw) RegimeMove.scanLaw⟩

end Sys2Proof.Machine
end


section
/-! PROOFS. Tilt regimes, the events: each transition as the whole state it leaves, and from that the estimate, the
class change, the capture expiry and the major-fault notification in every regime. -/

namespace Sys2Proof.Machine

/-! ## Choices -/

/-- Two choices agree when their conditions are equivalent and their outcomes equal. -/
theorem choice_congr {α : Type} {p q : Prop} [Decidable p] [Decidable q] {x y u v : α} (condition : p ↔ q)
    (yes : x = u) (no : y = v) : (if p then x else y) = if q then u else v :=
  ite_congr (propext condition) (fun _ => yes) (fun _ => no)

/-- A choice inside the first branch of another, with the same alternative, is one on both conditions. -/
theorem choice_and {α : Type} {p q : Prop} [Decidable p] [Decidable q] (x y : α) :
    (if p then if q then x else y else y) = if p ∧ q then x else y := by
  by_cases hp : p <;> simp [hp]

/-- A choice inside the second branch of another, with the same outcome, is one on either condition. -/
theorem choice_or {α : Type} {p q : Prop} [Decidable p] [Decidable q] (x y : α) :
    (if p then x else if q then x else y) = if p ∨ q then x else y := by
  by_cases hp : p <;> simp [hp]

/-! ## Each transition as the whole state it leaves -/

/-- A change of regime is the REGIME notice on the state before, with the controller and the two channels written. -/
theorem enterRegime_eq (s : State) (ctl : RegimeCtl) (cause : NoticeCause) :
    enterRegime s ctl cause =
      { post s (.regime s.ctl.regime ctl.regime cause) with
        ctl := ctl
        tilt := s.tilt.told (tiltEnabled ctl.regime ctl.hold)
        steer := s.steer.told (steerEnabled ctl.regime) } := rfl

/-- An increment reads none of the four blocks that a change of regime writes. -/
theorem increment_overlay (s : State) (ctl : RegimeCtl) (clamp : ClampCtl) (tilt steer : DriveChannel)
    (id : CounterId) :
    increment { s with ctl := ctl, clamp := clamp, tilt := tilt, steer := steer } id =
      { increment s id with ctl := ctl, clamp := clamp, tilt := tilt, steer := steer } := by
  obtain ⟨stats, notices⟩ :=
    increment_congr (s := { s with ctl := ctl, clamp := clamp, tilt := tilt, steer := steer }) (t := s) id rfl rfl rfl
  apply State.ext_blocks <;> simp [stats, notices]

theorem enterReleasing_eq (s : State) (cause : NoticeCause) :
    enterReleasing s cause =
      { post s (.regime s.ctl.regime .releasing cause) with
        ctl := { s.ctl with regime := .releasing, purpose := some .release }
        clamp := { s.clamp with
          solenoid := s.clamp.solenoid.energize
          run := s.clamp.run + 1
          timer := .running .release s.params.releaseTmo.ms s.params.releaseTmo.ms }
        tilt := s.tilt.told true
        steer := s.steer.told true
        flight := { s.flight with
          targetMsgs := s.flight.targetMsgs ++ [.set s.ctl.latest.phi]
          appliesSent := s.flight.appliesSent + 1 } } := rfl

theorem enterCapturing_eq (s : State) (cause : CaptureCause) :
    enterCapturing s cause =
      { post s (.regime s.ctl.regime .capturing cause.notice) with
        ctl := { s.ctl with
          regime := .capturing, cause := some cause, forced := decide (cause = .fault)
          capTimer := .running s.params.capTime.toNat, capRun := s.ctl.capRun + 1 }
        tilt := s.tilt.told true
        steer := s.steer.told true } := rfl

/-- The hold flag of an entry to ENGAGING, as one condition (01 R24). -/
theorem mayHold_and_holdPossible (s : State) (mayHold : Bool) :
    (mayHold && holdPossible s) =
      decide (mayHold = true ∧ (s.est.meas = .valid ∨ s.est.meas = .single) ∧ s.tilt.state ≠ .tripped) := by
  simp [holdPossible, Bool.decide_and]

theorem enterEngaging_eq (s : State) (forced mayHold : Bool) (cause : NoticeCause) :
    enterEngaging s forced mayHold cause =
      { post s (.regime s.ctl.regime .engaging cause) with
        ctl := { s.ctl with
          regime := .engaging, cause := none, forced := forced, hold := some (mayHold && holdPossible s)
          purpose := some .engage, capTimer := .stopped }
        clamp := { s.clamp with
          solenoid := .deEnergized
          run := s.clamp.run + 1
          timer := .running .engage s.params.engageTmo.ms s.params.engageTmo.ms }
        tilt := s.tilt.told (mayHold && holdPossible s)
        steer := s.steer.told true } := by
  apply State.ext_blocks
  case h8 => exact congrArg s.tilt.told (by simp [tiltEnabled, holdPossible])
  all_goals rfl

theorem abortCapture_eq (s : State) (cause : NoticeCause) :
    abortCapture s cause =
      { increment (post (post s (.regime s.ctl.regime .active cause)) (.captureAbort s.wheel.v)) .captureAborts with
        ctl := { s.ctl with regime := .active, cause := none, capTimer := .stopped }
        tilt := s.tilt.told true
        steer := s.steer.told true } := by
  refine (increment_overlay (post (post s (.regime s.ctl.regime .active cause)) (.captureAbort s.wheel.v))
    { s.ctl with regime := .active, cause := none, capTimer := .stopped } s.clamp (s.tilt.told true)
    (s.steer.told true) .captureAborts).trans ?_
  apply State.ext_blocks <;> simp

/-- Settles O16: the four equations above. -/
theorem entryOfARegime : Obligations.EntryOfARegime := by
  intro s
  refine ⟨enterReleasing_eq s, enterCapturing_eq s, fun forced mayHold cause => ?_, abortCapture_eq s⟩
  dsimp only
  rw [← mayHold_and_holdPossible]
  exact enterEngaging_eq s forced mayHold cause

/-- In ENGAGING and FAILED, where STEER is enabled and TILT follows the hold flag, the end of a hold. -/
theorem endHold_eq {s : State} (h : s.ctl.regime = .engaging ∨ s.ctl.regime = .failed) :
    endHold s =
      if s.ctl.hold = some true then
        { s with ctl := { s.ctl with hold := some false }, tilt := s.tilt.told false, steer := s.steer.told true }
      else s := by
  unfold endHold
  split
  · rcases h with h | h <;>
      simp [tellChannels, State.setTilt, State.setSteer, State.setCtl, h, tiltEnabled, steerEnabled]
  · rfl

/-! ## CLASS_CHANGE -/

theorem confirmRelease_eq {s : State} (h : s.ctl.regime = .releasing) :
    confirmRelease s =
      { increment (post s (.regime .releasing .active .clamp)) .releases with
        ctl := { s.ctl with regime := .active, purpose := none }
        clamp := { s.clamp with timer := .stopped }
        tilt := s.tilt.told true
        steer := s.steer.told true } := by
  rw [← h]
  exact increment_overlay (post s (.regime s.ctl.regime .active .clamp)) _ _ _ _ _

theorem confirmEngagement_eq {s : State} (h : s.ctl.regime = .engaging) :
    confirmEngagement s =
      { increment (post s (.regime .engaging .locked .clamp)) .engagements with
        ctl := { s.ctl with regime := .locked, purpose := none, hold := none, forced := false }
        clamp := { s.clamp with timer := .stopped }
        tilt := s.tilt.told false
        steer := s.steer.told true } := by
  rw [← h]
  exact increment_overlay (post s (.regime s.ctl.regime .locked .clamp)) _ _ _ _ _

/-- Settles O17, by regime and class. -/
theorem classChangeConfirms : Obligations.ClassChangeConfirms := by
  intro s c rest hf
  have taken : exec .classChange s =
      .next (takeClassChange c (s.setFlight { s.flight with clampEvents := rest })) := by
    simp [exec, execClassChange, hf]
  rw [taken]
  congr 1
  unfold takeClassChange
  split
  case h_1 h =>
    exact (confirmRelease_eq h).trans (if_pos ⟨h, rfl⟩).symm
  case h_2 h =>
    rw [confirmEngagement_eq h]
    simp_all [State.setFlight]
  case h_3 h =>
    rw [endHold_eq (.inr h)]
    simp_all [State.setFlight]
  case h_4 releasing engaging failed =>
    rw [if_neg fun h => releasing h.1 h.2, if_neg fun h => engaging h.1 h.2, if_neg fun h => failed h.1 h.2.1]
    rfl

/-! ## ESTIMATE -/

/-- An estimate taken: the checks of the regime in force on the state with the latest estimate, then the decision. -/
theorem exec_estimate {s : State} {e : Estimate} {rest : List Estimate} (hf : s.flight.estimates = e :: rest) :
    exec .estimate s = .next ((estimateChecks e (s.tookEstimate e rest)).decided e) := by
  simp only [exec, execEstimate, hf]
  rfl

/-- The six release conditions (01 R7). -/
theorem releaseConditions_iff (s : State) :
    releaseConditions s = true ↔
      s.faults.majorPresent = false ∧ s.tilt.state ≠ .tripped ∧ s.ctl.latest.meas = .valid ∧
        s.ctl.latest.ringFull = true ∧ s.ctl.latest.stand = false ∧ s.clamp.stroke.cls = .closed := by
  simp [releaseConditions, and_assoc]

/-- The abort by speed (01 R17). -/
theorem abortDue_iff (e : Estimate) (s : State) :
    abortDue e s = true ↔
      s.params.mode = .auto ∧ s.ctl.cause = some .speed ∧ s.params.vRelease ≤ s.wheel.v ∧ e.stand = false := by
  simp [abortDue, and_assoc]

/-- The four conditions of completion (01 R16). -/
theorem captureComplete_iff (e : Estimate) (s : State) :
    captureComplete e s = true ↔
      (e.meas = .valid ∨ e.meas = .single) ∧ s.target.phiCmd = 0 ∧ mag e.phi ≤ s.params.capWindow ∧
        mag e.phiRate ≤ s.params.capRate := by
  simp [captureComplete, and_assoc]

/-- The checks in LOCKED, with the release conditions written out. -/
theorem estimateInLocked_eq (s : State) :
    estimateInLocked s =
      if s.params.mode = .auto ∧ s.params.vRelease ≤ s.wheel.v ∧ s.faults.majorPresent = false ∧
        s.tilt.state ≠ .tripped ∧ s.ctl.latest.meas = .valid ∧ s.ctl.latest.ringFull = true ∧
        s.ctl.latest.stand = false ∧ s.clamp.stroke.cls = .closed then enterReleasing s .speed
      else s :=
  choice_congr (by rw [releaseConditions_iff]) rfl rfl

/-- The checks in CAPTURING, for a capture with its cause. -/
theorem estimateInCapturing_eq {s : State} {cause : CaptureCause} (h : s.ctl.cause = some cause) (e : Estimate) :
    estimateInCapturing e s =
      if s.params.mode = .auto ∧ cause = .speed ∧ s.params.vRelease ≤ s.wheel.v ∧ e.stand = false then
        abortCapture s .speed
      else if (e.meas = .valid ∨ e.meas = .single) ∧ s.target.phiCmd = 0 ∧ mag e.phi ≤ s.params.capWindow ∧
        mag e.phiRate ≤ s.params.capRate then enterEngaging s s.ctl.forced true cause.notice
      else s := by
  unfold estimateInCapturing
  refine choice_congr ?_ rfl (choice_congr (captureComplete_iff e s) ?_ rfl)
  · rw [abortDue_iff, h, Option.some.injEq]
  · rw [h, completionCause]

/-- The checks in ENGAGING and FAILED. -/
theorem estimateInHold_eq {s : State} (h : s.ctl.regime = .engaging ∨ s.ctl.regime = .failed) (e : Estimate) :
    estimateInHold e s =
      if s.ctl.hold = some true ∧ (e.meas = .lost ∨ s.tilt.state = .tripped) then
        { s with ctl := { s.ctl with hold := some false }, tilt := s.tilt.told false, steer := s.steer.told true }
      else s := by
  unfold estimateInHold
  rw [endHold_eq h, choice_and]
  exact choice_congr and_comm rfl rfl

/-- Settles O14, by regime. -/
theorem estimateWhileClamped : Obligations.EstimateWhileClamped := by
  intro s e rest hf
  rw [exec_estimate hf]
  refine ⟨fun h => ?_, fun h => ?_, fun h => ?_⟩
  · have checks : estimateChecks e (s.tookEstimate e rest) = s.tookEstimate e rest := by
      simp [estimateChecks, State.tookEstimate, h]
    rw [checks]
  · have checks : estimateChecks e (s.tookEstimate e rest) = estimateInLocked (s.tookEstimate e rest) := by
      simp [estimateChecks, State.tookEstimate, h]
    rw [checks, estimateInLocked_eq, apply_ite (State.decided · e)]
    rfl
  · have checks : estimateChecks e (s.tookEstimate e rest) = estimateInHold e (s.tookEstimate e rest) := by
      rcases h with h | h <;> simp [estimateChecks, State.tookEstimate, h]
    rw [checks, estimateInHold_eq (s := s.tookEstimate e rest) h, apply_ite (State.decided · e)]
    rfl

/-- Settles O15, by regime, the loss of measurement first. -/
theorem estimateWhileFree : Obligations.EstimateWhileFree := by
  intro s e rest hf
  rw [exec_estimate hf]
  refine ⟨fun h lost => ?_, fun h found => ?_, fun h found => ?_, fun cause h hc found => ?_⟩
  · have checks : estimateChecks e (s.tookEstimate e rest) = loseMeasurement (s.tookEstimate e rest) := by
      rcases h with h | h | h <;> simp [estimateChecks, State.tookEstimate, h, lost]
    rw [checks, loseMeasurement]
  · have checks : estimateChecks e (s.tookEstimate e rest) = s.tookEstimate e rest := by
      simp [estimateChecks, State.tookEstimate, h, found]
    rw [checks]
  · have checks : estimateChecks e (s.tookEstimate e rest) = estimateInActive e (s.tookEstimate e rest) := by
      simp [estimateChecks, State.tookEstimate, h, found]
    rw [checks, estimateInActive, apply_ite (State.decided · e), apply_ite (State.decided · e)]
    rfl
  · have checks : estimateChecks e (s.tookEstimate e rest) = estimateInCapturing e (s.tookEstimate e rest) := by
      simp [estimateChecks, State.tookEstimate, h, found]
    rw [checks, estimateInCapturing_eq (s := s.tookEstimate e rest) hc, apply_ite (State.decided · e),
      apply_ite (State.decided · e)]
    rfl

/-! ## CAPTURE_TIMER_EXPIRY -/

/-- An expiry taken out of its list. -/
theorem exec_captureTimerExpiry {s : State} {n : RunNumber} {rest : List RunNumber}
    (hf : s.flight.captureExpiries = n :: rest) :
    exec .captureTimerExpiry s =
      .next (takeCaptureExpiry n { s with flight := { s.flight with captureExpiries := rest } }) := by
  simp only [exec, execCaptureTimerExpiry, hf]
  rfl

/-- Settles O20: by the forced flag where the expiry is the run's, and discarded by the first test that fails
elsewhere. -/
theorem captureExpiryIsHandled : Obligations.CaptureExpiryIsHandled := by
  intro s n rest hf
  rw [exec_captureTimerExpiry hf]
  refine ⟨fun left h ht hn => ?_, fun discarded => ?_⟩
  · simp only [takeCaptureExpiry, h, ht, hn, if_true]
    exact congrArg _ (choice_congr Iff.rfl rfl (congrArg (State.setCtl _) (by simp [h])))
  · unfold takeCaptureExpiry
    split
    case h_2 => rfl
    case h_1 left h ht =>
      have stale : n ≠ s.ctl.capRun := by
        rcases discarded with hr | hl | hn
        · exact absurd h hr
        · exact absurd ht (hl left)
        · exact hn
      exact congrArg _ (if_neg stale)

/-! ## MAJOR_FAULT_NOTIFICATION -/

/-- A notification taken out of its list. -/
theorem exec_majorFaultNotification {s : State} {k : FaultKind} {rest : List FaultKind}
    (hf : s.flight.notifications = k :: rest) :
    exec .majorFaultNotification s =
      .next (takeNotification k { s with flight := { s.flight with notifications := rest } }) := by
  simp only [exec, execMajorFaultNotification, hf]
  rfl

theorem leanOutOfHand_iff (s : State) :
    leanOutOfHand s = true ↔ s.est.meas = .lost ∨ s.tilt.state = .tripped := by
  simp [leanOutOfHand]

theorem engagementForcing_iff (k : FaultKind) (s : State) :
    engagementForcing k s = true ↔
      (s.est.meas = .lost ∨ s.tilt.state = .tripped) ∨ k = .clampPosition ∨ k = .staleInput := by
  simp [engagementForcing, leanOutOfHand, or_assoc]

theorem takeNotification_active {s : State} (h : s.ctl.regime = .active) (k : FaultKind) :
    takeNotification k s =
      if engagementForcing k s then enterEngaging s true (decide (k ≠ .staleInput)) .fault
      else enterCapturing s .fault := by
  simp [takeNotification, h]

theorem takeNotification_capturing {s : State} (h : s.ctl.regime = .capturing) (k : FaultKind) :
    takeNotification k s =
      if engagementForcing k s then enterEngaging s true (decide (k ≠ .staleInput)) .fault
      else if s.ctl.forced then s else forceCapture s := by
  simp [takeNotification, h]

theorem takeNotification_holding {s : State} (h : s.ctl.regime = .engaging ∨ s.ctl.regime = .failed)
    (k : FaultKind) :
    takeNotification k s =
      if leanOutOfHand s = true ∧ s.ctl.hold = some true then
        { s with ctl := { s.ctl with hold := some false }, tilt := s.tilt.told false, steer := s.steer.told true }
      else s := by
  rw [← choice_and, ← endHold_eq h]
  rcases h with h | h <;> simp [takeNotification, h]

/-- Settles O21, by regime. -/
theorem majorFaultForces : Obligations.MajorFaultForces := by
  intro s k rest hf
  rw [exec_majorFaultNotification hf]
  intro s' out forcing mayHold
  have forcing_iff : engagementForcing k s' = true ↔ forcing := engagementForcing_iff k s'
  have out_iff : leanOutOfHand s' = true ↔ out := leanOutOfHand_iff s'
  refine ⟨fun h => ?_, fun h => ?_, fun h => ?_, fun h => ?_, fun h => ?_⟩
  · rcases h with h | h <;> simp [takeNotification, s', h]
  · simp [takeNotification, s', mayHold, h]
  · rw [takeNotification_active (s := s') h]
    exact ⟨fun hk => congrArg _ (if_pos (forcing_iff.mpr hk)), fun hk => congrArg _ (if_neg (mt forcing_iff.mp hk))⟩
  · rw [takeNotification_capturing (s := s') h]
    refine ⟨fun hk => congrArg _ (if_pos (forcing_iff.mpr hk)), fun hk hc => congrArg _ ?_, fun hk hc => congrArg _ ?_⟩
    · exact (if_neg (mt forcing_iff.mp hk)).trans (if_pos hc)
    · exact (if_neg (mt forcing_iff.mp hk)).trans (if_neg (Bool.eq_false_iff.mp hc))
  · have ends_iff : leanOutOfHand s' = true ∧ s'.ctl.hold = some true ↔ out ∧ s.ctl.hold = some true :=
      and_congr out_iff Iff.rfl
    rw [takeNotification_holding (s := s') h]
    exact ⟨fun ho => congrArg _ (if_pos (ends_iff.mpr ho)), fun ho => congrArg _ (if_neg (mt ends_iff.mp ho))⟩

end Sys2Proof.Machine
end


section
/-! PROOFS. Tilt regimes, the host's commands: how a COMMAND row answers its frame, and from that ARM, DISARM, RELEASE,
LOCK and RESTART in every regime. -/

namespace Sys2Proof.Machine

/-! ## How a COMMAND row answers -/

/-- An owner's answer put into the reply buffer. -/
def Answer.replyTo (a : Answer) (f : Frame) : State := putReply a.state f a.status a.payload

/-- A reply is the line's answer, its payload left out under a refusal. -/
theorem putReply_eq (s : State) (f : Frame) (st : Status) (p : List Byte) :
    putReply s f st p = s.setLine (s.line.answered f st (if st.carriesPayload then p else [])) := by
  unfold putReply StationLine.answered
  split <;> rfl

/-- A command accepted: the reply carries the regime in force after it. -/
theorem commandOk_replyTo (t : State) (f : Frame) :
    (commandOk t).replyTo f = t.setLine (t.line.answered f .ok (be8 t.ctl.regime.code)) :=
  putReply_eq t f .ok _

/-- A command accepted without a change. -/
theorem commandOk_dropped_replyTo (s : State) (f : Frame) (rest : List Frame) :
    (commandOk (s.dropped rest)).replyTo f = s.replied f rest .ok (be8 s.ctl.regime.code) :=
  commandOk_replyTo _ f

theorem refusedState_replyTo (s : State) (f : Frame) (rest : List Frame) :
    (refuse (s.dropped rest) .refusedState).replyTo f = s.replied f rest .refusedState [] :=
  putReply_eq _ f .refusedState []

theorem refusedFault_replyTo (s : State) (f : Frame) (rest : List Frame) :
    (refuse (s.dropped rest) .refusedFault).replyTo f = s.replied f rest .refusedFault [] :=
  putReply_eq _ f .refusedFault []

/-- The row of a COMMAND with one code byte. -/
theorem row_of_asked {s : State} {f : Frame} {rest : List Frame} {code : Byte} (h : s.asked f rest 0x07 [code]) :
    f.row = commandRow [code] := by
  obtain ⟨-, hkind, hpayload⟩ := h
  simp [Frame.row, hkind, hpayload]

/-- A COMMAND row takes its frame, hands the command to the regime controller, and puts the answer on the line. -/
theorem takeCommand {s : State} {f : Frame} {rest : List Frame} {code : Byte} (owner : State → Answer)
    (h : s.asked f rest 0x07 [code]) :
    takeRequest (commandRow [code]) (serve parse1 fun _ s => owner s) s = (owner (s.dropped rest)).replyTo f := by
  have row := row_of_asked h
  obtain ⟨hframes, hkind, hpayload⟩ := h
  rw [takeRequest_own _ _ hframes row]
  exact serve_parsed _ _ _ _ code (.inr (.inr hkind)) (by rw [hpayload]; rfl)

theorem exec_arm {s : State} {f : Frame} {rest : List Frame} (h : s.asked f rest 0x07 [1]) :
    exec .arm s = .next ((takeArm (s.dropped rest)).replyTo f) := congrArg _ (takeCommand takeArm h)

theorem exec_disarm {s : State} {f : Frame} {rest : List Frame} (h : s.asked f rest 0x07 [2]) :
    exec .disarm s = .next ((takeDisarm (s.dropped rest)).replyTo f) := congrArg _ (takeCommand takeDisarm h)

theorem exec_release {s : State} {f : Frame} {rest : List Frame} (h : s.asked f rest 0x07 [3]) :
    exec .release s = .next ((takeRelease (s.dropped rest)).replyTo f) := congrArg _ (takeCommand takeRelease h)

theorem exec_lock {s : State} {f : Frame} {rest : List Frame} (h : s.asked f rest 0x07 [4]) :
    exec .lock s = .next ((takeLock (s.dropped rest)).replyTo f) := congrArg _ (takeCommand takeLock h)

/-! ## ARM and DISARM -/

/-- ARM in OFF: the three conditions in their order. -/
theorem takeArm_off {s : State} (h : s.ctl.regime = .off) :
    takeArm s =
      if s.faults.majorPresent then refuse s .refusedFault
      else if s.clamp.stroke.cls ≠ .closed ∨ s.acq.scanMode ≠ .continuous then refuse s .refusedState
      else commandOk (enterRegime s { s.ctl with regime := .locked } .request) := by
  simp only [takeArm, h, choice_or]

/-- ARM where the part is armed already. -/
theorem takeArm_armed {s : State} (hoff : s.ctl.regime ≠ .off) (hfailed : s.ctl.regime ≠ .failed) :
    takeArm s = commandOk s := by
  unfold takeArm
  split <;> simp_all

theorem takeArm_failed {s : State} (h : s.ctl.regime = .failed) : takeArm s = refuse s .refusedState := by
  simp [takeArm, h]

theorem takeDisarm_locked {s : State} (h : s.ctl.regime = .locked) :
    takeDisarm s = commandOk (enterRegime s { s.ctl with regime := .off } .request) := by
  simp only [takeDisarm, h]

theorem takeDisarm_elsewhere {s : State} (h : s.ctl.regime ≠ .locked) : takeDisarm s = refuse s .refusedState := by
  unfold takeDisarm
  split <;> simp_all

/-- Settles O39, by regime. -/
theorem armAndDisarm : Obligations.ArmAndDisarm := by
  intro s f rest
  refine ⟨fun asked => ?_, fun asked => ?_⟩
  · rw [exec_arm asked]
    refine ⟨fun h => ?_, fun hoff hfailed => ?_, fun h => ?_⟩
    · rw [takeArm_off (s := s.dropped rest) h, apply_ite (Answer.replyTo · f), apply_ite (Answer.replyTo · f),
        refusedFault_replyTo, refusedState_replyTo, commandOk_replyTo, enterRegime_eq,
        show (s.dropped rest).ctl.regime = .off from h]
      rfl
    · rw [takeArm_armed (s := s.dropped rest) hoff hfailed, commandOk_dropped_replyTo]
    · rw [takeArm_failed (s := s.dropped rest) h, refusedState_replyTo]
  · rw [exec_disarm asked]
    refine ⟨fun h => ?_, fun h => ?_⟩
    · rw [takeDisarm_locked (s := s.dropped rest) h, commandOk_replyTo, enterRegime_eq,
        show (s.dropped rest).ctl.regime = .locked from h]
      rfl
    · rw [takeDisarm_elsewhere (s := s.dropped rest) h, refusedState_replyTo]

/-! ## RELEASE -/

/-- RELEASE in LOCKED, with the release conditions written out. -/
theorem takeRelease_locked {s : State} (h : s.ctl.regime = .locked) :
    takeRelease s =
      if s.params.vCapture ≤ s.wheel.v ∧ s.faults.majorPresent = false ∧ s.tilt.state ≠ .tripped ∧
        s.ctl.latest.meas = .valid ∧ s.ctl.latest.ringFull = true ∧ s.ctl.latest.stand = false ∧
        s.clamp.stroke.cls = .closed then commandOk (enterReleasing s .request)
      else if s.faults.majorPresent = true ∨ s.tilt.state = .tripped then refuse s .refusedFault
      else refuse s .refusedState := by
  rw [takeRelease, h]
  exact choice_congr (by rw [releaseConditions_iff]) rfl rfl

theorem takeRelease_capturing {s : State} (h : s.ctl.regime = .capturing) :
    takeRelease s =
      if s.ctl.cause = some .fault ∨ s.faults.majorPresent = true then refuse s .refusedFault
      else if s.ctl.latest.stand = true ∨ s.wheel.v < s.params.vCapture then refuse s .refusedState
      else commandOk (abortCapture s .request) := by
  rw [takeRelease, h]
  rfl

/-- Calling a capture off does not read the line. -/
theorem abortCapture_setLine (s : State) (l : StationLine) (cause : NoticeCause) :
    (abortCapture s cause).setLine l = abortCapture (s.setLine l) cause :=
  (increment_setLine _ l _).symm

/-- Settles O40, by regime. -/
theorem releaseRequest : Obligations.ReleaseRequest := by
  intro s f rest asked
  rw [exec_release asked]
  refine ⟨fun h => ?_, fun h => ?_, fun h => ?_, fun h => ?_⟩
  · rw [takeRelease_locked (s := s.dropped rest) h, apply_ite (Answer.replyTo · f), apply_ite (Answer.replyTo · f),
      refusedFault_replyTo, refusedState_replyTo, commandOk_replyTo]
    rfl
  · have refused : takeRelease (s.dropped rest) = refuse (s.dropped rest) .refusedState := by
      rcases h with h | h | h <;> simp [takeRelease, State.dropped, h]
    rw [refused, refusedState_replyTo]
  · have accepted : takeRelease (s.dropped rest) = commandOk (s.dropped rest) := by
      rcases h with h | h <;> simp [takeRelease, State.dropped, h]
    rw [accepted, commandOk_dropped_replyTo]
  · rw [takeRelease_capturing (s := s.dropped rest) h, apply_ite (Answer.replyTo · f),
      apply_ite (Answer.replyTo · f), refusedFault_replyTo, refusedState_replyTo, commandOk_replyTo,
      abortCapture_setLine]
    simp only [abortCapture_frame]
    rfl

/-! ## LOCK -/

/-- LOCK in CAPTURING: a capture by speed becomes one by request. -/
theorem takeLock_capturing {s : State} (h : s.ctl.regime = .capturing) :
    takeLock s =
      if s.ctl.cause = some .speed then commandOk (s.setCtl { s.ctl with cause := some .request })
      else commandOk s := by
  rw [takeLock, h]

/-- Settles O41, by regime. -/
theorem lockRequest : Obligations.LockRequest := by
  intro s f rest asked
  rw [exec_lock asked]
  refine ⟨fun h => ?_, fun h => ?_, fun h => ?_, fun h => ?_, fun h => ?_⟩
  · have refused : takeLock (s.dropped rest) = refuse (s.dropped rest) .refusedState := by
      rcases h with h | h <;> simp [takeLock, State.dropped, h]
    rw [refused, refusedState_replyTo]
  · have accepted : takeLock (s.dropped rest) = commandOk (s.dropped rest) := by
      rcases h with h | h <;> simp [takeLock, State.dropped, h]
    rw [accepted, commandOk_dropped_replyTo]
  · have abandoned : takeLock (s.dropped rest) = commandOk (enterEngaging (s.dropped rest) false true .request) := by
      simp only [takeLock, show (s.dropped rest).ctl.regime = .releasing from h]
    rw [abandoned, commandOk_replyTo]
    rfl
  · have captures : takeLock (s.dropped rest) = commandOk (enterCapturing (s.dropped rest) .request) := by
      simp only [takeLock, show (s.dropped rest).ctl.regime = .active from h]
    rw [captures, commandOk_replyTo]
    rfl
  · rw [takeLock_capturing (s := s.dropped rest) h, apply_ite (Answer.replyTo · f), commandOk_replyTo,
      commandOk_dropped_replyTo, State.setCtl_ctl, show (s.dropped rest).ctl.regime = .capturing from h, h]
    by_cases hc : s.ctl.cause = some .speed
    · rw [if_pos hc]
      exact congrArg _ (if_pos hc)
    · rw [if_neg hc]
      exact congrArg _ (if_neg hc)

/-! ## RESTART -/

/-- A RESTART taken out of the frames. -/
theorem exec_restart {s : State} {f : Frame} {rest : List Frame} (h : s.asked f rest 0x07 [5]) :
    exec .restart s = .next (takeRestart f (s.dropped rest)) :=
  congrArg _ (takeRequest_own _ takeRestart h.1 (row_of_asked h))

/-- The warm reset empties the frames under way, so one taken out before it makes no difference. -/
theorem warmReset_dropped (s : State) (rest : List Frame) : warmReset (s.dropped rest) = warmReset s := rfl

/-- Settles O42, by regime and by the broadcast mark. -/
theorem restartRequest : Obligations.RestartRequest := by
  intro s f rest asked
  rw [exec_restart asked]
  refine ⟨fun h => ?_, fun hoff hlocked hfailed => ?_⟩
  · have accepted : restartAccepted (s.dropped rest) = true := by
      rcases h with h | h | h <;> simp [restartAccepted, State.dropped, h]
    refine ⟨fun hb => ?_, fun hb => ?_⟩
    · rw [takeRestart, if_pos accepted, if_pos hb, warmReset_dropped]
    · rw [takeRestart, if_pos accepted, if_neg (by simp [hb]), putReply_eq]
      rfl
  · have refused : restartAccepted (s.dropped rest) = false := by
      unfold restartAccepted
      split <;> simp_all [State.dropped]
    rw [takeRestart, if_neg (by simp [refused]), putReply_eq]
    rfl

end Sys2Proof.Machine
end


section
/-! PROOFS. Tilt regimes, the resets and the millisecond. -/

namespace Sys2Proof.Machine

/-! ## The cold reset -/

/-- The station number of straps in range is their value plus 1 (10 R162). -/
theorem station_of_straps {station : Nat} (h : station ≤ 7) (rate : BitVec 2) :
    (StationLine.start (BitVec.ofNat 3 station) rate).station.toNat = station + 1 := by
  simp [StationLine.station, StationLine.start]
  omega

/-- Settles O4: each block by its chapter's defaults, the fault kinds and the counters one by one. -/
theorem coldResetSetsEveryBlock : Obligations.ColdResetSetsEveryBlock := by
  intro s station rate hs _
  refine ⟨_, rfl, rfl, rfl, rfl, rfl, rfl, rfl, rfl, rfl, rfl, rfl, fun k => ?_, rfl, rfl, rfl, fun id => ?_, rfl, rfl,
    rfl, station_of_straps hs _, rfl, rfl⟩
  · cases k <;> rfl
  · cases id <;> rfl

/-- Settles O53: the laws in the order of Lawful, each on the values of a cold reset. -/
theorem resetIsLawful : Obligations.ResetIsLawful := by
  refine ⟨fun h => absurd rfl h, ?regime, ⟨fun _ => rfl, nofun⟩, ?channels, ?trips, ⟨rfl, rfl, nofun⟩, ?notices,
    ?params, ?gains, ⟨by decide, by decide⟩, ⟨by decide, nofun, nofun, nofun, by decide⟩, ?ring, ?limits, ?line⟩
  case regime => constructor <;> decide
  case channels => constructor <;> (refine ⟨?_, ?_, ?_⟩ <;> decide)
  case trips => exact ⟨fun k => by cases k <;> decide, nofun, nofun⟩
  case notices => constructor <;> decide
  case params => exact ⟨fun n => by cases n <;> decide, by decide, by decide, fun c => by cases c <;> decide⟩
  case gains => exact ⟨fun g => by cases g <;> decide, fun g => by cases g <;> exact nofun, by decide⟩
  case ring => constructor <;> decide
  case limits => exact ⟨nofun, nofun, by unfold Within; decide, by unfold Within; decide⟩
  case line => constructor <;> decide

/-! ## The warm reset -/

/-- A RESTART's reply is at its end: nothing of it is left to send (log 7). -/
theorem replyAtEnd_of_ended {l : StationLine}
    (h : l.tx = .idle ∨ ∃ n, l.tx = .sending n ∧ ∀ r, l.reply = some r → r.chars.length ≤ n + 1) :
    replyAtEnd l = true := by
  rcases h with h | ⟨n, h, hlen⟩
  · simp [replyAtEnd, h]
  · have short : (sendingChars l).length ≤ n + 1 := by
      unfold sendingChars
      split
      case h_1 r hr => exact hlen r hr
      case h_2 => simp
    simp [replyAtEnd, h, short]

/-- A channel after a warm reset: a tripped one stays TRIPPED. -/
theorem DriveChannel.warm_eq (c : DriveChannel) (limit : Int) :
    c.warm limit = .start (if c.state = .tripped then .tripped else .off) limit := by
  unfold DriveChannel.warm
  split <;> simp_all

/-- A warm reset leaves its blocks; the REGIME notice touches the notice queue alone. -/
theorem warmReset_blocks (s : State) : warmReset s = { warmBlocks s with notices := (warmReset s).notices } := by
  unfold warmReset
  split <;> rfl

/-- The notice queue after a warm reset: the REGIME notice alone, unless the regime was OFF. -/
theorem warmReset_notices (s : State) :
    (warmReset s).notices =
      { records := if s.ctl.regime = .off then []
          else [{ content := .regime s.ctl.regime .off .reset, time := s.notices.now, dropped := 0 }]
        now := s.notices.now
        attention := s.notices.attention
        alert := decide (s.ctl.regime ≠ .off) || s.notices.attention } := by
  unfold warmReset
  split
  case isTrue h => simp [warmBlocks, NoticeQueue.emptied, NoticeQueue.refreshAlert, h]
  case isFalse h =>
    simp [post, storeNotice, warmBlocks, NoticeQueue.emptied, NoticeQueue.refreshAlert, Config.noticeSize, h]

/-- TILT after a warm reset. -/
theorem warmReset_tilt (s : State) :
    (warmReset s).tilt = .start (if s.tilt.state = .tripped then .tripped else .off) s.params.ilimT :=
  (congrArg State.tilt (warmReset_blocks s)).trans (s.tilt.warm_eq _)

/-- STEER after a warm reset. -/
theorem warmReset_steer (s : State) :
    (warmReset s).steer = .start (if s.steer.state = .tripped then .tripped else .off) s.params.ilimS :=
  (congrArg State.steer (warmReset_blocks s)).trans (s.steer.warm_eq _)

/-- Settles O5: the two commands that are a warm reset, then block by block. -/
theorem warmResetKeepsTheConfiguration : Obligations.WarmResetKeepsTheConfiguration := by
  intro s
  have blocks := warmReset_blocks s
  have queue := warmReset_notices s
  refine ⟨_, rfl, fun waiting ended => ?_, fun f rest asked broadcast h => ?_, (congrArg State.ctl blocks :),
    (congrArg State.clamp blocks :), (congrArg State.acq blocks :), (congrArg State.wheel blocks :),
    (congrArg State.est blocks :), (congrArg State.target blocks :), (congrArg State.law blocks :), warmReset_tilt s,
    warmReset_steer s, (congrArg State.arbiter blocks :), (congrArg State.faults blocks :),
    (congrArg State.stats blocks :), (congrArg State.params blocks :), (congrArg NoticeQueue.records queue :),
    (congrArg NoticeQueue.now queue :), (congrArg NoticeQueue.attention queue :), ?_, (congrArg State.line blocks :),
    (congrArg State.flight blocks :), (congrArg State.pending blocks :)⟩
  · exact (execWarmReset_eq s).trans (congrArg _ (if_pos (by rw [waiting, replyAtEnd_of_ended ended]; rfl)))
  · exact ((restartRequest s f rest asked).1 h).1 broadcast
  · simp [queue]

/-! ## The millisecond -/

/-- A capture timer that runs out is one with a millisecond left. -/
theorem CaptureTimer.runsOut_iff (t : CaptureTimer) : t.runsOut = true ↔ t = .running 1 := by
  cases t <;> simp [CaptureTimer.runsOut]

/-- TIMESTAMP_TICK as the whole state it leaves. -/
theorem execTimestampTick_eq (s : State) :
    execTimestampTick s = .next { s with
      notices := { s.notices with now := s.notices.now + 1 }
      clamp := { s.clamp with solenoid := s.clamp.solenoid.tick, timer := s.clamp.timer.tick }
      ctl := { s.ctl with capTimer := s.ctl.capTimer.tick }
      flight := { s.flight with
        captureExpiries :=
          s.flight.captureExpiries ++ (if s.ctl.capTimer = .running 1 then [s.ctl.capRun] else []) } } := by
  unfold execTimestampTick
  dsimp only
  by_cases h : s.ctl.capTimer = .running 1
  · rw [if_pos ((CaptureTimer.runsOut_iff _).mpr h), if_pos h]
    rfl
  · rw [if_neg (mt (CaptureTimer.runsOut_iff _).mp h), if_neg h, List.append_nil]
    rfl

theorem Solenoid.tick_eq (x : Solenoid) :
    x.tick = match x with
      | .pullIn n => .pullIn (n - 1)
      | x => x := by
  cases x <;> rfl

theorem LockTimer.tick_eq (x : LockTimer) :
    x.tick = match x with
      | .running p d n => .running p d (n - 1)
      | x => x := by
  cases x <;> rfl

theorem CaptureTimer.tick_eq (x : CaptureTimer) :
    x.tick = match x with
      | .running n => .running (n - 1)
      | x => x := by
  cases x <;> rfl

/-- Settles O6: each timer goes down exactly where it runs. -/
theorem timestampTickCounts : Obligations.TimestampTickCounts := by
  intro s
  refine (execTimestampTick_eq s).trans ?_
  rw [Solenoid.tick_eq, LockTimer.tick_eq, CaptureTimer.tick_eq] <;> rfl

end Sys2Proof.Machine
end


section
/-! PROOFS. Tilt regimes, the commands that find nothing to take: an empty list, another message in front, another row's
frame in front, and a WARM_RESET that is no end of a RESTART's reply. -/

namespace Sys2Proof.Machine

/-! ## Rows of requests -/

/-- With no frame handed on, a request row changes nothing. -/
theorem takeRequest_none {s : State} (h : s.flight.frames = []) (row : RequestRow) (handle : Frame → State → State) :
    takeRequest row handle s = s := by
  simp [takeRequest, h]

/-- With another row's frame in front, a request row changes nothing. -/
theorem takeRequest_other {s : State} {f : Frame} {rest : List Frame} (h : s.flight.frames = f :: rest)
    {row : RequestRow} (hr : f.row ≠ row) (handle : Frame → State → State) : takeRequest row handle s = s := by
  simp [takeRequest, h, hr]

/-- The KIND of the frames that a row takes; UNKNOWN_KIND takes those of none of these (11 R176). -/
def RequestRow.kind : RequestRow → Byte
  | .ident => 0x01
  | .status => 0x02
  | .setParam => 0x03
  | .getParam => 0x04
  | .mapWrite => 0x05
  | .mapRead => 0x06
  | .arm | .disarm | .release | .lock | .restart | .commandCodeOutOfRange => 0x07
  | .faultRead => 0x08
  | .faultClear => 0x09
  | .faultConfig => 0x0A
  | .counterRead => 0x0B
  | .eventRead => 0x0C
  | .sampleRead => 0x0D
  | .acqConfig => 0x0E
  | .acqSingle => 0x0F
  | .unknownKind => 0x00

/-- Every COMMAND falls to a row of KIND 7. -/
theorem kind_commandRow (payload : List Byte) : (commandRow payload).kind = 0x07 := by
  unfold commandRow
  (repeat' split) <;> rfl

/-- A row other than UNKNOWN_KIND takes frames of its own KIND alone. -/
theorem kind_of_row {f : Frame} (h : f.row ≠ .unknownKind) : f.kind = f.row.kind := by
  refine BitVec.eq_of_toNat_eq ?_
  unfold Frame.row at *
  split at h
  case h_16 => exact absurd rfl h
  case h_7 hk => rw [hk, kind_commandRow]; rfl
  all_goals simp_all [RequestRow.kind]

/-- UNKNOWN_KIND takes no frame with a KIND of 1 to 15. -/
theorem row_ne_unknownKind {f : Frame} (lo : 1 ≤ f.kind.toNat) (hi : f.kind.toNat ≤ 15) : f.row ≠ .unknownKind := by
  have command : commandRow f.payload ≠ .unknownKind := fun h => by
    have := kind_commandRow f.payload
    rw [h] at this
    exact absurd this (by decide)
  unfold Frame.row
  split
  case h_7 => exact command
  case h_16 =>
    simp only [imp_false] at *
    omega
  all_goals exact nofun

/-- The row of a COMMAND frame is that of its payload. -/
theorem row_of_command {f : Frame} (h : f.kind = 0x07) : f.row = commandRow f.payload := by
  simp [Frame.row, h]

/-- A COMMAND falls to the row of a known code by that code alone: the five codes have five different rows. -/
theorem payload_of_commandRow {payload : List Byte} {code : Byte} (known : commandRow [code] ≠ .commandCodeOutOfRange)
    (h : commandRow payload = commandRow [code]) : payload = [code] := by
  unfold commandRow at h known
  split at h
  case h_1 c => grind
  case h_2 => exact absurd h.symm known

/-- The request row of a command that is one. -/
def requestRowOf : Instr → Option RequestRow
  | .ident => some .ident
  | .status => some .status
  | .setParam => some .setParam
  | .getParam => some .getParam
  | .mapWrite => some .mapWrite
  | .mapRead => some .mapRead
  | .arm => some .arm
  | .disarm => some .disarm
  | .release => some .release
  | .lock => some .lock
  | .restart => some .restart
  | .faultRead => some .faultRead
  | .faultClear => some .faultClear
  | .faultConfig => some .faultConfig
  | .counterRead => some .counterRead
  | .eventRead => some .eventRead
  | .sampleRead => some .sampleRead
  | .acqConfig => some .acqConfig
  | .acqSingle => some .acqSingle
  | .unknownKind => some .unknownKind
  | .commandCodeOutOfRange => some .commandCodeOutOfRange
  | _ => none

/-- Such a command takes the frame of its row. -/
theorem exec_requestRow {c : Instr} {row : RequestRow} (hc : requestRowOf c = some row) :
    ∃ handle, ∀ s, exec c s = .next (takeRequest row handle s) := by
  cases c <;> cases hc <;> exact ⟨_, fun _ => rfl⟩

theorem exec_of_no_frame {c : Instr} {row : RequestRow} (hc : requestRowOf c = some row) {s : State}
    (h : s.flight.frames = []) : exec c s = .next s := by
  obtain ⟨handle, he⟩ := exec_requestRow hc
  rw [he, takeRequest_none h]

theorem exec_of_other_row {c : Instr} {row : RequestRow} (hc : requestRowOf c = some row) {s : State} {f : Frame}
    {rest : List Frame} (h : s.flight.frames = f :: rest) (hr : f.row ≠ row) : exec c s = .next s := by
  obtain ⟨handle, he⟩ := exec_requestRow hc
  rw [he, takeRequest_other h hr]

/-- Each entry of the request table is a request row with its KIND. -/
theorem requestTable_rows :
    ∀ p ∈ requestTable, ∃ row, requestRowOf p.1 = some row ∧ row.kind = p.2.1 ∧ row ≠ .unknownKind := by
  simp [requestTable, requestRowOf, RequestRow.kind]

/-- Each entry of the command table is the row of a known code. -/
theorem commandTable_rows :
    ∀ p ∈ commandTable, requestRowOf p.1 = some (commandRow [p.2]) ∧ commandRow [p.2] ≠ .commandCodeOutOfRange ∧
      commandRow [p.2] ≠ .unknownKind := by
  simp [commandTable, requestRowOf, commandRow]

/-- The request rows with no frame handed on. -/
theorem requests_without_frame {s : State} (h : s.flight.frames = []) :
    (∀ p ∈ requestTable, exec p.1 s = .next s) ∧ exec .unknownKind s = .next s ∧ exec .arm s = .next s ∧
      exec .disarm s = .next s ∧ exec .release s = .next s ∧ exec .lock s = .next s ∧ exec .restart s = .next s := by
  refine ⟨fun p hp => ?_, exec_of_no_frame rfl h, exec_of_no_frame rfl h, exec_of_no_frame rfl h,
    exec_of_no_frame rfl h, exec_of_no_frame rfl h, exec_of_no_frame rfl h⟩
  obtain ⟨row, hrow, -⟩ := requestTable_rows p hp
  exact exec_of_no_frame hrow h

/-- The request rows with a frame in front, each behind a frame that is not its own. -/
theorem requests_behind_another {s : State} {f : Frame} {rest : List Frame} (h : s.flight.frames = f :: rest) :
    (∀ p ∈ requestTable, f.kind ≠ p.2.1 → exec p.1 s = .next s) ∧
      (1 ≤ f.kind.toNat → f.kind.toNat ≤ 15 → exec .unknownKind s = .next s) ∧
      (∀ p ∈ commandTable, f.kind ≠ 0x07 ∨ f.payload ≠ [p.2] → exec p.1 s = .next s) ∧
      ∀ p ∈ commandTable, f.payload = [p.2] → exec .commandCodeOutOfRange s = .next s := by
  refine ⟨fun p hp hk => ?_, fun lo hi => exec_of_other_row rfl h (row_ne_unknownKind lo hi), fun p hp hk => ?_,
    fun p hp hpay => exec_of_other_row rfl h fun hr => ?_⟩
  · obtain ⟨row, hrow, hkind, known⟩ := requestTable_rows p hp
    refine exec_of_other_row hrow h fun hr => hk ?_
    rw [kind_of_row (hr ▸ known), hr, hkind]
  · obtain ⟨hrow, incode, known⟩ := commandTable_rows p hp
    refine exec_of_other_row hrow h fun hr => ?_
    have kind : f.kind = 0x07 := by rw [kind_of_row (hr ▸ known), hr, kind_commandRow]
    exact hk.elim (absurd kind) (absurd (payload_of_commandRow incode ((row_of_command kind).symm.trans hr)))
  · obtain ⟨-, incode, -⟩ := commandTable_rows p hp
    have kind : f.kind = 0x07 := by rw [kind_of_row (by rw [hr]; exact nofun), hr]; rfl
    exact incode (by rw [← hpay, ← row_of_command kind, hr])

/-! ## Messages of other blocks -/

theorem classChange_absent {s : State} (h : ∀ c rest, s.flight.clampEvents ≠ .classChange c :: rest) :
    exec .classChange s = .next s := by
  simp only [exec, execClassChange]
  split
  case h_1 c rest he => exact absurd he (h c rest)
  all_goals rfl

theorem lockTimerExpiryTaken_absent {s : State} (h : ∀ n p rest, s.flight.clampEvents ≠ .lockExpiry n p :: rest) :
    exec .lockTimerExpiryTaken s = .next s := by
  simp only [exec, execLockTimerExpiryTaken]
  split
  case h_1 n p rest he => exact absurd he (h n p rest)
  all_goals rfl

theorem setCommand_absent {s : State} (h : ∀ x rest, s.flight.targetMsgs ≠ .set x :: rest) :
    exec .setCommand s = .next s := by
  simp only [exec, execSetCommand]
  split
  case h_1 x rest he => exact absurd he (h x rest)
  all_goals rfl

theorem regimeDecision_absent {s : State} (h : ∀ d rest, s.flight.targetMsgs ≠ .decision d :: rest) :
    exec .regimeDecision s = .next s := by
  simp only [exec, execRegimeDecision]
  split
  case h_1 d rest he => exact absurd he (h d rest)
  all_goals rfl

/-- A WARM_RESET that is no end of a RESTART's reply. -/
theorem warmReset_absent {s : State} (h : s.line.restartWaiting = false ∨ replyAtEnd s.line = false) :
    exec .warmReset s = .next s := by
  refine (execWarmReset_eq s).trans (congrArg _ (if_neg ?_))
  rcases h with h | h <;> simp [h]

/-- Settles O3: the lists, the WARM_RESET and the request rows in the order of the statement. -/
theorem absentInputChangesNothing : Obligations.AbsentInputChangesNothing := by
  intro s
  refine ⟨fun h => ?_, fun h => ?_, fun h => ?_, fun h => ?_, fun h => ?_, fun h => ?_, classChange_absent,
    lockTimerExpiryTaken_absent, fun h => ?_, fun h => ?_, setCommand_absent, regimeDecision_absent, fun h => ?_,
    fun h => ?_, fun c rest h waits => ?_, fun h => ?_, fun h => ?_, fun h => warmReset_absent (.inl h),
    fun h => warmReset_absent (.inr ?_), fun n r htx hreply more => warmReset_absent (.inr ?_),
    fun h => (requests_without_frame h).1, fun h => (requests_without_frame h).2, fun _ _ => requests_behind_another⟩
  · simp [exec, execSnapshotAtEstimator, h]
  · simp [exec, execSnapshotAtClamp, h]
  · simp [exec, execSnapshotAtChannel, h]
  · simp [exec, execSnapshotAtChannel, h]
  · simp [exec, execSnapshotAtArbiter, h]
  · simp [exec, execEstimate, h]
  · simp [exec, execCaptureTimerExpiry, h]
  · simp [exec, execMajorFaultNotification, h]
  · simp [exec, execApplyCommand, Nat.not_lt.mpr h]
  · simp [exec, execDemandComputation, h]
  · simp [exec, execDemandComputation, h, Nat.not_le.mpr waits]
  · simp [exec, execArbitration, h]
  · simp [exec, execGrant, h]
  · simp [replyAtEnd, h]
  · simp [replyAtEnd, sendingChars, htx, hreply, more]

end Sys2Proof.Machine
end


section
/-! PROOFS. Tilt clamp: a detection past updates of blocks that it does not read; and from that the snapshot at the
clamp, the lock timer's expiry at the regime controller, and the ends of pull-in and of a lock run. -/

namespace Sys2Proof.Machine

/-! ## A detection past other updates -/

/-- A detection leaves the state it is made on, with the four pieces it writes as they come out on any state that agrees
in what it reads. -/
theorem detect_of_sameReports {s t : State} (same : SameReports s t) (k : FaultKind) :
    detect s k =
      { s with
        faults := (detect t k).faults, stats := (detect t k).stats, notices := (detect t k).notices
        flight := { s.flight with notifications := (detect t k).flight.notifications } } := by
  obtain ⟨faults, stats, notices, -, notifications⟩ := same.detect k
  apply State.ext_blocks
  case h16 => apply Flight.ext_lists <;> simp [notifications]
  all_goals simp [faults, stats, notices]

/-- A detection reads none of the four blocks that a change of regime writes. -/
theorem detect_overlay (s : State) (ctl : RegimeCtl) (clamp : ClampCtl) (tilt steer : DriveChannel) (k : FaultKind) :
    detect { s with ctl := ctl, clamp := clamp, tilt := tilt, steer := steer } k =
      { detect s k with ctl := ctl, clamp := clamp, tilt := tilt, steer := steer } := by
  refine Eq.trans (detect_of_sameReports (t := s) ?_ k) ?_
  · exact ⟨rfl, rfl, rfl, rfl, rfl⟩
  · apply State.ext_blocks
    case h16 => apply Flight.ext_lists <;> simp
    all_goals simp

/-- A detection reads nothing of the clamp controller, nor the lists of its snapshots and of its events. -/
theorem detect_clampOverlay (s : State) (clamp : ClampCtl) (snaps : List Snapshot) (events : List ClampEvent)
    (k : FaultKind) :
    detect { s with clamp := clamp, flight := { s.flight with snapClamp := snaps, clampEvents := events } } k =
      { detect s k with
        clamp := clamp, flight := { (detect s k).flight with snapClamp := snaps, clampEvents := events } } := by
  refine Eq.trans (detect_of_sameReports (t := s) ?_ k) ?_
  · exact ⟨rfl, rfl, rfl, rfl, rfl⟩
  · simp

/-! ## PULL_IN_END and LOCK_TIMER_EXPIRY -/

theorem pullInEnd_idle {s : State} (h : s.clamp.solenoid ≠ .pullIn 0) : exec .pullInEnd s = .next s := by
  simp only [exec, execPullInEnd]
  split
  case h_1 due => exact absurd due h
  all_goals rfl

theorem lockTimerExpiry_idle {s : State} (h : ∀ p d, s.clamp.timer ≠ .running p d 0) :
    exec .lockTimerExpiry s = .next s := by
  simp only [exec, execLockTimerExpiry]
  split
  case h_1 p d due => exact absurd due (h p d)
  all_goals rfl

/-- Settles O19: each timer with nothing left, and each with anything else. -/
theorem clampTimersRunOut : Obligations.ClampTimersRunOut := by
  intro s
  refine ⟨fun due => ?_, pullInEnd_idle, fun p d due => ?_, lockTimerExpiry_idle⟩
  · simp only [exec, execPullInEnd, due]
    rfl
  · simp only [exec, execLockTimerExpiry, due]
    rfl

/-! ## LOCK_TIMER_EXPIRY_TAKEN -/

/-- An expiry taken out of its list. -/
theorem exec_lockTimerExpiryTaken {s : State} {n : RunNumber} {p : RunPurpose} {rest : List ClampEvent}
    (hf : s.flight.clampEvents = .lockExpiry n p :: rest) :
    exec .lockTimerExpiryTaken s =
      .next (takeLockExpiry n { s with flight := { s.flight with clampEvents := rest } }) := by
  simp only [exec, execLockTimerExpiryTaken, hf]
  rfl

theorem releaseTimedOut_eq {s : State} (h : s.ctl.regime = .releasing) :
    releaseTimedOut s =
      { increment (detect (post s (.regime .releasing .locked .timeout)) .releaseTimeout) .releaseTimeouts with
        ctl := { s.ctl with regime := .locked, purpose := none }
        clamp := { s.clamp with solenoid := .deEnergized }
        tilt := s.tilt.told false
        steer := s.steer.told true } := by
  rw [← h]
  have detected := detect_overlay (post s (.regime s.ctl.regime .locked .timeout))
    { s.ctl with regime := .locked, purpose := none } { s.clamp with solenoid := .deEnergized } (s.tilt.told false)
    (s.steer.told true) .releaseTimeout
  exact (congrArg (increment · .releaseTimeouts) detected).trans (increment_overlay _ _ _ _ _ _)

theorem engageTimedOut_eq {s : State} (h : s.ctl.regime = .engaging) :
    engageTimedOut s =
      { detect (post s (.regime .engaging .failed .timeout)) .engageTimeout with
        ctl := { s.ctl with regime := .failed, purpose := none, forced := false }
        tilt := s.tilt.told (decide (s.ctl.hold = some true))
        steer := s.steer.told true } := by
  rw [← h]
  have detected := detect_overlay (post s (.regime s.ctl.regime .failed .timeout))
    { s.ctl with regime := .failed, purpose := none, forced := false } s.clamp
    (s.tilt.told (decide (s.ctl.hold = some true))) (s.steer.told true) .engageTimeout
  refine Eq.trans detected ?_
  simp

/-- A lock timer expiry at the regime controller: the run number first, then the regime with its purpose. -/
theorem takeLockExpiry_eq (n : RunNumber) (s : State) :
    takeLockExpiry n s =
      if n = s.clamp.run ∧ s.ctl.regime = .releasing ∧ s.ctl.purpose = some .release then releaseTimedOut s
      else if n = s.clamp.run ∧ s.ctl.regime = .engaging ∧ s.ctl.purpose = some .engage then engageTimedOut s
      else s := by
  unfold takeLockExpiry
  by_cases hn : n = s.clamp.run
  case neg => simp only [hn, false_and, if_false]
  case pos =>
    rw [if_pos hn]
    split
    case h_1 regime purpose => rw [if_pos ⟨hn, regime, purpose⟩]
    case h_2 regime purpose => rw [if_neg (by simp [regime]), if_pos ⟨hn, regime, purpose⟩]
    case h_3 releasing engaging =>
      rw [if_neg fun ⟨_, regime, purpose⟩ => releasing regime purpose,
        if_neg fun ⟨_, regime, purpose⟩ => engaging regime purpose]

/-- Settles O18: each run that times out is the whole state it leaves, and every other expiry is discarded. -/
theorem lockExpiryTimesOut : Obligations.LockExpiryTimesOut := by
  intro s n p rest hf
  rw [exec_lockTimerExpiryTaken hf, takeLockExpiry_eq]
  exact congrArg _ (ite_congr rfl (fun ⟨_, releasing, _⟩ => releaseTimedOut_eq releasing) fun _ =>
    ite_congr rfl (fun ⟨_, engaging, _⟩ => engageTimedOut_eq engaging) fun _ => rfl)

/-! ## SNAPSHOT_AT_CLAMP -/

theorem atRail_iff (r : Nat) : atRail r = true ↔ r ≤ 15 ∨ 4080 ≤ r := by
  simp [atRail]

/-- The raw class by its four tests in order (02 R34). -/
theorem rawClass_eq (p : Params) (r : Nat) :
    rawClass p r =
      if r ≤ 15 ∨ 4080 ≤ r then none
      else if (r : Int) ≤ p.strokeClosedMax then some .closed
      else if p.strokeOpenMin ≤ (r : Int) then some .opened
      else some .moving :=
  choice_congr (atRail_iff r) rfl rfl

theorem openWhileUnpowered_eq (cls : StrokeClass) (solenoid : Solenoid) (regime : Regime) :
    openWhileUnpowered cls solenoid regime =
      decide (cls = .opened ∧ solenoid = .deEnergized ∧ (regime = .off ∨ regime = .locked ∨ regime = .failed)) := by
  simp [openWhileUnpowered, Bool.decide_and, Bool.decide_or, Bool.and_assoc, Bool.or_assoc]

theorem shutWhileFree_eq (cls : StrokeClass) (regime : Regime) :
    shutWhileFree cls regime = decide ((cls = .closed ∨ cls = .moving) ∧ regime = .active) := by
  simp [shutWhileFree, Bool.decide_and, Bool.decide_or]

/-- A snapshot taken out of its list. -/
theorem exec_snapshotAtClamp {s : State} {n : Snapshot} {rest : List Snapshot}
    (hf : s.flight.snapClamp = n :: rest) :
    exec .snapshotAtClamp s = .next (takeSnapshotAtClamp n (s.setFlight { s.flight with snapClamp := rest })) := by
  simp only [exec, execSnapshotAtClamp, hf]

/-- The events that a snapshot sends: the class, where it has changed (02 R36). -/
def classChanges (before after : ClampCtl) : List ClampEvent :=
  if after.stroke.cls = before.stroke.cls then [] else [.classChange after.stroke.cls]

/-- The class change sent is the list of events lengthened by it. -/
theorem sendClassChange_eq (s : State) (before after : ClampCtl) :
    (if after.stroke.cls = before.stroke.cls then s else sendClampEvent s (.classChange after.stroke.cls)) =
      s.setFlight { s.flight with clampEvents := s.flight.clampEvents ++ classChanges before after } := by
  unfold classChanges
  split
  · simp [State.setFlight]
  · rfl

/-- What a snapshot leaves at the clamp: at most one detection, on the state before, with the clamp controller and its
two lists written. -/
theorem takeSnapshotAtClamp_eq (s : State) (n : Snapshot) (rest : List Snapshot) :
    let after := s.clamp.next s.params s.ctl.regime n
    let d := if formRises s.clamp after then detect s .clampPosition else s
    takeSnapshotAtClamp n (s.setFlight { s.flight with snapClamp := rest }) =
      { d with
        clamp := after
        flight := { d.flight with
          snapClamp := rest, clampEvents := s.flight.clampEvents ++ classChanges s.clamp after } } := by
  intro after d
  unfold takeSnapshotAtClamp
  dsimp only
  rw [sendClassChange_eq]
  by_cases rising : formRises s.clamp after = true
  · rw [show d = detect s .clampPosition from if_pos rising]
    exact (if_pos rising).trans (detect_clampOverlay s after rest _ .clampPosition)
  · rw [show d = s from if_neg rising]
    exact if_neg rising

/-- Settles O11: the clamp controller after the snapshot in the statement's words, in the state that the snapshot
leaves. -/
theorem snapshotIsClassified : Obligations.SnapshotIsClassified := by
  intro s n rest hf r raw stroke f1 f2 f3 up d
  have next : s.clamp.next s.params s.ctl.regime n =
      { s.clamp with stroke := stroke, form1 := f1, form2 := f2, form3 := f3 } := by
    rw [ClampCtl.next, rawClass_eq, openWhileUnpowered_eq, shutWhileFree_eq]
    rfl
  rw [exec_snapshotAtClamp hf, takeSnapshotAtClamp_eq, next]
  rfl

end Sys2Proof.Machine
end


section
/-! PROOFS. Signal acquisition, the sequencer: the two qualifiers; the settlement of a period and the start of the next
one; and the conversions up to a published snapshot. -/

namespace Sys2Proof.Machine

/-! ## The qualifiers -/

/-- Settles O48: by whether the raw value is contrary, whether it is the candidate, and whether the run is complete. -/
theorem qualifiersTakeThree : Obligations.QualifiersTakeThree := by
  refine ⟨fun q raw _ => ⟨fun equal => ?_, fun contrary early => ?_, fun contrary third => ?_⟩,
    fun q raw _ => ⟨fun equal => ?_, fun contrary candidate early => ?_, fun contrary candidate third => ?_,
      fun contrary fresh => ?_⟩⟩
  · rw [Qual.eval, if_pos equal]
  · rw [Qual.eval, if_neg contrary, if_pos (by omega)]
  · rw [Qual.eval, if_neg contrary, if_neg (by omega)]
  · rw [ClassQual.eval, if_pos equal]
  · rw [ClassQual.eval, if_neg contrary, if_pos candidate, if_pos (by omega), candidate]
  · rw [ClassQual.eval, if_neg contrary, if_pos candidate, if_neg (by omega)]
  · rw [ClassQual.eval, if_neg contrary, if_neg fresh]

/-! ## ACQUISITION_PERIOD_START -/

/-- An increment leaves the state it is made on, with the counters and the queue as they come out on any state that
agrees in what it reads. -/
theorem increment_of_sameReports {s t : State} (same : SameReports s t) (id : CounterId) :
    increment s id = { s with stats := (increment t id).stats, notices := (increment t id).notices } := by
  obtain ⟨-, stats, notices, -, -⟩ := same.increment id
  apply State.ext_blocks <;> simp [stats, notices]

/-- An increment does not read the sequencer. -/
theorem increment_setAcq (s : State) (q : Sequencer) (id : CounterId) :
    increment (s.setAcq q) id = (increment s id).setAcq q := by
  refine (increment_of_sameReports (s := s.setAcq q) (t := s) ⟨rfl, rfl, rfl, rfl, rfl⟩ id).trans ?_
  apply State.ext_blocks <;> simp

/-- A detection does not read the sequencer. -/
theorem detect_setAcq (s : State) (q : Sequencer) (k : FaultKind) :
    detect (s.setAcq q) k = (detect s k).setAcq q := by
  refine (detect_of_sameReports (s := s.setAcq q) (t := s) ⟨rfl, rfl, rfl, rfl, rfl⟩ k).trans ?_
  apply State.ext_blocks
  case h16 => apply Flight.ext_lists <;> simp
  all_goals simp

/-- The sequencer with its sequence abandoned (03 R45). -/
def Sequencer.abandoned (q : Sequencer) : Sequencer := { q with inFlight := none }

/-- The sequencer with one more missed period in a row, counted up to 3 (03 R48). -/
def Sequencer.countMissed (q : Sequencer) : Sequencer :=
  { q with missed := if q.missed < 3 then q.missed + 1 else q.missed }

/-- A period that was not CONTINUOUS, or that published a snapshot, leaves nothing to settle (03 R48). -/
theorem settlePeriod_of_met {s : State} (met : ¬(s.acq.periodKind = .continuous ∧ s.acq.published = false)) :
    settlePeriod s = s :=
  if_neg met

/-- A missed period with the sequencer at `q`: the count, the report of the third in a row, both as on any other
sequencer, and the consecutive count (03 R48). -/
theorem settlePeriod_of_missed (s : State) {q : Sequencer}
    (missed : q.periodKind = .continuous ∧ q.published = false) :
    settlePeriod (s.setAcq q) =
      (if q.missed = 2 then detect (increment s .missedPeriods) .staleInput
        else increment s .missedPeriods).setAcq q.countMissed := by
  refine (if_pos missed).trans ?_
  simp only [Sequencer.countMissed, State.setAcq_acq, increment_setAcq]
  by_cases early : q.missed < 3
  · by_cases stale : q.missed = 2
    · simp only [stale, Nat.reduceLT, Nat.reduceAdd, if_true]
      exact detect_setAcq (increment s .missedPeriods) _ _
    · simp only [early, stale, Nat.reduceEqDiff, if_true, if_false]
      rfl
  · have later : q.missed ≠ 2 := by omega
    simp only [early, later, if_false]

/-- A period start, at a sequencer whose last sequence has been abandoned (03 R45). -/
theorem Sequencer.startPeriod_eq {q : Sequencer} (idle : q.inFlight = none) :
    q.startPeriod = { q with
      published := false
      periodKind := q.scanMode
      awaitingFirst := false
      inFlight := if q.scanMode = .continuous ∨ q.singleWaiting = true then some (.fresh q.k) else none
      singleWaiting := decide (q.scanMode = .continuous) && q.singleWaiting } := by
  unfold Sequencer.startPeriod
  cases q.scanMode
  case continuous => simp
  case single => cases waiting : q.singleWaiting <;> simp [idle]

/-- A period start with nothing to settle: the first after a reset, or one after a period that was met. -/
theorem exec_acquisitionPeriodStart_quiet {s : State}
    (quiet : s.acq.awaitingFirst = true ∨ ¬(s.acq.periodKind = .continuous ∧ s.acq.published = false)) :
    exec .acquisitionPeriodStart s = .next (s.setAcq s.acq.abandoned.startPeriod) := by
  have settled : (if s.acq.awaitingFirst then s.setAcq s.acq.abandoned else settlePeriod (s.setAcq s.acq.abandoned)) =
      s.setAcq s.acq.abandoned := by
    split
    case isTrue => rfl
    case isFalse later => exact settlePeriod_of_met (quiet.resolve_left later)
  exact congrArg (fun t : State => Host.Outcome.next (t.setAcq t.acq.startPeriod)) settled

/-- A period start after a missed period. -/
theorem exec_acquisitionPeriodStart_missed {s : State} (later : s.acq.awaitingFirst = false)
    (missed : s.acq.periodKind = .continuous ∧ s.acq.published = false) :
    exec .acquisitionPeriodStart s =
      .next ((if s.acq.missed = 2 then detect (increment s .missedPeriods) .staleInput
        else increment s .missedPeriods).setAcq s.acq.abandoned.countMissed.startPeriod) := by
  have settled : (if s.acq.awaitingFirst then s.setAcq s.acq.abandoned else settlePeriod (s.setAcq s.acq.abandoned)) =
      (if s.acq.missed = 2 then detect (increment s .missedPeriods) .staleInput
        else increment s .missedPeriods).setAcq s.acq.abandoned.countMissed :=
    (if_neg (by simp [later])).trans (settlePeriod_of_missed s missed)
  exact congrArg (fun t : State => Host.Outcome.next (t.setAcq t.acq.startPeriod)) settled

/-- Settles O7: after a missed period, and with nothing to settle. -/
theorem periodStartSettlesAndStarts : Obligations.PeriodStartSettlesAndStarts := by
  intro s missed counted reported
  by_cases due : missed = true
  case pos =>
    obtain ⟨later, missing⟩ :
        s.acq.awaitingFirst = false ∧ s.acq.periodKind = .continuous ∧ s.acq.published = false := by
      simpa [missed, and_assoc] using due
    rw [exec_acquisitionPeriodStart_missed later missing, Sequencer.startPeriod_eq rfl]
    simp only [reported, counted, due, Bool.true_and, decide_eq_true_eq, if_true]
    rfl
  case neg =>
    have quiet : s.acq.awaitingFirst = true ∨ ¬(s.acq.periodKind = .continuous ∧ s.acq.published = false) := by
      by_cases first : s.acq.awaitingFirst = true
      · exact .inl first
      · exact .inr fun ⟨continuous, unpublished⟩ => due (by simp [missed, first, continuous, unpublished])
    rw [exec_acquisitionPeriodStart_quiet quiet, Sequencer.startPeriod_eq rfl]
    simp only [reported, counted, due, Bool.false_and, Bool.false_eq_true, if_false]
    rfl

/-! ## CONVERSION_COMPLETE -/

/-- Only eight finished results make a table by input. -/
theorem PerInput.ofResults_of_length_ne {results : List Nat} (h : results.length ≠ 8) :
    PerInput.ofResults results = none := by
  unfold PerInput.ofResults
  split
  case h_1 => exact absurd rfl h
  case h_2 => rfl

theorem exec_conversionComplete_idle {s : State} (idle : s.acq.inFlight = none) (r : Nat) (level : StandLevel) :
    exec (.conversionComplete r level) s = .next s := by
  simp only [exec, execConversionComplete, idle]

/-- A conversion before the last one of input 7. -/
theorem exec_conversionComplete_unfinished {s : State} {q : Sequence} (running : s.acq.inFlight = some q) {r : Nat}
    (unfinished : (q.take (r % 4096)).finished.length ≠ 8) (level : StandLevel) :
    exec (.conversionComplete r level) s =
      .next (s.setAcq { s.acq with inFlight := some (q.take (r % 4096)) }) := by
  simp only [exec, execConversionComplete, running, PerInput.ofResults_of_length_ne unfinished]

/-- The last conversion of input 7. -/
theorem exec_conversionComplete_last {s : State} {q : Sequence} (running : s.acq.inFlight = some q) {r : Nat}
    {results : PerInput Nat} (finished : PerInput.ofResults (q.take (r % 4096)).finished = some results)
    (level : StandLevel) :
    exec (.conversionComplete r level) s =
      .next (deliverSnapshot (s.setAcq (s.acq.publish results level)) (s.acq.publish results level).last) := by
  simp only [exec, execConversionComplete, running, finished, State.setAcq_acq]

/-- A rail qualifier of a publication is the one before, evaluated with the raw rail condition (03 R57). -/
theorem Sequencer.publish_railQual (q : Sequencer) (results : PerInput Nat) (level : StandLevel) (i : Input) :
    (q.publish results level).railQual.get i =
      (q.railQual.get i).eval (decide (results.get i ≤ 15) || decide (4080 ≤ results.get i)) := by
  simp [Sequencer.publish, atRail]

/-- The snapshot carries the values that its qualifiers then have. -/
theorem Sequencer.publish_rail (q : Sequencer) (results : PerInput Nat) (level : StandLevel) (i : Input) :
    (q.publish results level).last.rail.get i = ((q.publish results level).railQual.get i).value := by
  simp [Sequencer.publish]

/-- Settles O8: with no sequence, before the last conversion of input 7, and at it. -/
theorem conversionsMakeASnapshot : Obligations.ConversionsMakeASnapshot := by
  intro s r level twelveBits
  refine ⟨fun idle => exec_conversionComplete_idle idle r level, ?_⟩
  intro q running q'
  have taken : q.take (r % 4096) = q' := by rw [Nat.mod_eq_of_lt (by omega)]; rfl
  refine ⟨fun unfinished => ?_, fun x0 x1 x2 x3 x4 x5 x6 x7 finished => ?_⟩
  · rw [exec_conversionComplete_unfinished running (taken ▸ unfinished), taken]
    rfl
  · obtain ⟨results, eight, values⟩ : ∃ results, PerInput.ofResults (q.take (r % 4096)).finished = some results ∧
        results =
          { leanA := x0, leanB := x1, bar := x2, stroke := x3, iTilt := x4, iSteer := x5, vsup := x6, temp := x7 } :=
      ⟨_, by rw [taken, finished]; rfl, rfl⟩
    exact ⟨_, (s.acq.publish results level).last, exec_conversionComplete_last running eight level, values, rfl,
      s.acq.publish_railQual results level, s.acq.publish_rail results level, rfl⟩

end Sys2Proof.Machine
end


section
/-! PROOFS. Signal acquisition, the host's requests: how their rows answer a frame, what each owner makes of its
request, and from that SAMPLE_READ, ACQ_CONFIG and ACQ_SINGLE. -/

namespace Sys2Proof.Machine

/-! ## SAMPLE_READ, ACQ_CONFIG and ACQ_SINGLE -/

theorem refusedRange_replyTo (s : State) (f : Frame) (rest : List Frame) :
    (refuse (s.dropped rest) .refusedRange).replyTo f = s.replied f rest .refusedRange [] :=
  putReply_eq _ f .refusedRange []

/-- A request accepted, with what it writes in the sequencer. -/
theorem accepted_setAcq_replyTo (s : State) (q : Sequencer) (f : Frame) (rest : List Frame) (st : Status)
    (payload : List Byte) (h : st.carriesPayload = true) :
    Answer.replyTo { state := (s.dropped rest).setAcq q, status := st, payload := payload } f =
      { s.replied f rest st payload with acq := q } := by
  rw [Answer.replyTo, putReply_eq, if_pos h]
  rfl

/-- A row takes a frame of its kind, hands the request to its owner, and puts the answer on the line. -/
theorem takeRequest_served {α : Type} {s : State} {f : Frame} {rest : List Frame} {kind : Byte} {payload : List Byte}
    (h : s.asked f rest kind payload) (addressed : f.broadcast = false) {row : RequestRow}
    (rowOfKind : ∀ f : Frame, f.kind = kind → f.row = row) {parse : List Byte → Option α} {a : α}
    (parsed : parse payload = some a) (owner : α → State → Answer) :
    takeRequest row (serve parse owner) s = (owner a (s.dropped rest)).replyTo f := by
  obtain ⟨hframes, hkind, hpayload⟩ := h
  rw [takeRequest_own _ _ hframes (rowOfKind f hkind)]
  exact serve_parsed _ _ _ _ a (.inl addressed) (hpayload ▸ parsed)

section
variable {s : State} {f : Frame} {rest : List Frame}

theorem exec_sampleRead {input format : Byte} (h : s.asked f rest 0x0D [input, format])
    (addressed : f.broadcast = false) :
    exec .sampleRead s = .next ((takeSampleRead input format (s.dropped rest)).replyTo f) :=
  congrArg _ (takeRequest_served h addressed (row := .sampleRead) (parse := parse2)
    (fun f kind => by simp [Frame.row, kind]) rfl fun a s => takeSampleRead a.1 a.2 s)

theorem exec_acqConfig {mode count : Byte} (h : s.asked f rest 0x0E [mode, count]) (addressed : f.broadcast = false) :
    exec .acqConfig s = .next ((takeAcqConfig mode count (s.dropped rest)).replyTo f) :=
  congrArg _ (takeRequest_served h addressed (row := .acqConfig) (parse := parse2)
    (fun f kind => by simp [Frame.row, kind]) rfl fun a s => takeAcqConfig a.1 a.2 s)

theorem exec_acqSingle (h : s.asked f rest 0x0F []) (addressed : f.broadcast = false) :
    exec .acqSingle s = .next ((takeAcqSingle (s.dropped rest)).replyTo f) :=
  congrArg _ (takeRequest_served h addressed (row := .acqSingle) (parse := parse0)
    (fun f kind => by simp [Frame.row, kind]) rfl fun _ s => takeAcqSingle s)

end

/-- The inputs have the numbers 0 to 7. -/
theorem Input.byNumber_eq_none {n : Nat} (h : 7 < n) : Input.byNumber n = none := by
  unfold Input.byNumber
  split
  case h_9 => rfl
  all_goals omega

/-- The formats have the codes 0 to 2. -/
theorem sampleFormat_eq_none (r : Nat) {n : Nat} (h : 2 < n) : sampleFormat r n = none := by
  unfold sampleFormat
  split
  case h_4 => rfl
  all_goals omega

/-- The three formats: RIGHT, SIGNED_LEFT and LEFT. -/
theorem sampleFormat_eq_some (r : Nat) {n : Nat} (h : n ≤ 2) :
    sampleFormat r n =
      some (if n = 0 then (r : Int) else if n = 1 then ((r : Int) - 2048) * 16 else (r : Int) * 16) := by
  obtain rfl | rfl | rfl : n = 0 ∨ n = 1 ∨ n = 2 := by omega
  all_goals rfl

/-- An input or a format out of range. -/
theorem takeSampleRead_refused {input format : Byte} (h : 7 < input.toNat ∨ 2 < format.toNat) (s : State) :
    takeSampleRead input format s = refuse s .refusedRange := by
  unfold takeSampleRead
  split
  case h_1 => rfl
  case h_2 i known =>
    have inputInRange : ¬7 < input.toNat := fun beyond => by
      simp [Input.byNumber_eq_none beyond] at known
    rw [sampleFormat_eq_none _ (h.resolve_left inputInRange)]

/-- A sample of an input in a format, with its marker reported and cleared. -/
theorem takeSampleRead_ok {input format : Byte} {i : Input} (known : Input.byNumber input.toNat = some i)
    {value : Int} (s : State) (formatted : sampleFormat (s.acq.last.results.get i) format.toNat = some value) :
    takeSampleRead input format s =
      { state := s.setAcq { s.acq with fresh := s.acq.fresh.set i false }, status := .ok
        payload := [input, format] ++ be16 value ++ be8 (bit (s.acq.fresh.get i)) } := by
  simp only [takeSampleRead, known, formatted]

/-- A mode of neither code. -/
theorem takeAcqConfig_refusedRange {mode : Byte} (h : 1 < mode.toNat) (count : Byte) (s : State) :
    takeAcqConfig mode count s = refuse s .refusedRange := by
  rw [takeAcqConfig, if_neg (by omega), if_neg (by omega)]

/-- SINGLE out of OFF. -/
theorem takeAcqConfig_refusedState {s : State} (h : s.ctl.regime ≠ .off) (count : Byte) :
    takeAcqConfig 1 count s = refuse s .refusedState :=
  if_neg h

theorem takeAcqConfig_continuous (count : Byte) (s : State) :
    takeAcqConfig 0 count s = configureAcq .continuous count s := rfl

theorem takeAcqConfig_single {s : State} (h : s.ctl.regime = .off) (count : Byte) :
    takeAcqConfig 1 count s = configureAcq .single count s :=
  if_pos h

/-- An ACQ_CONFIG accepted: the averaging count brought to a permitted one, the sequence abandoned and the single
request dropped (03 R49, R50). -/
theorem configureAcq_replyTo (mode : ScanMode) (count : Byte) (s : State) (f : Frame) (rest : List Frame) :
    let k := averagingCount count.toNat
    (configureAcq mode count (s.dropped rest)).replyTo f =
      { s.replied f rest (if k.toNat = count.toNat then .ok else .clamped) (be8 mode.code ++ be8 k.toNat) with
        acq := { s.acq with scanMode := mode, k := k, inFlight := none, singleWaiting := false } } :=
  accepted_setAcq_replyTo _ _ _ _ _ _ (by split <;> rfl)

/-- A request for a single sequence where it can wait (03 R51). -/
theorem takeAcqSingle_ok {s : State} (single : s.acq.scanMode = .single) (idle : s.acq.inFlight = none)
    (free : s.acq.singleWaiting = false) :
    takeAcqSingle s = { state := s.setAcq { s.acq with singleWaiting := true }, status := .ok, payload := [] } :=
  if_pos ⟨single, idle, free⟩

/-- A request for a single sequence in CONTINUOUS mode, or with one in flight or waiting. -/
theorem takeAcqSingle_refused {s : State}
    (busy : s.acq.scanMode = .continuous ∨ s.acq.inFlight ≠ none ∨ s.acq.singleWaiting = true) :
    takeAcqSingle s = refuse s .refusedState := by
  refine if_neg fun ⟨single, idle, free⟩ => ?_
  rcases busy with continuous | running | waiting
  · exact absurd (continuous.symm.trans single) (by decide)
  · exact running idle
  · exact absurd (free.symm.trans waiting) (by decide)

/-- Settles O47: each request by the tests of its owner in order. -/
theorem acquisitionRequests : Obligations.AcquisitionRequests := by
  intro s f rest addressed
  refine ⟨fun input format asked => ?_, fun mode count asked => ?_, fun asked => ?_⟩
  · rw [exec_sampleRead asked addressed]
    refine ⟨fun beyond => ?_, ?_⟩
    · rw [takeSampleRead_refused beyond, refusedRange_replyTo]
    · intro i known inFormat r value
      have formatted : sampleFormat ((s.dropped rest).acq.last.results.get i) format.toNat = some value := by
        rw [sampleFormat_eq_some _ inFormat]
        simp only [value, ← BitVec.toNat_inj]
        rfl
      rw [takeSampleRead_ok known _ formatted, accepted_setAcq_replyTo _ _ _ _ _ _ rfl]
      rfl
  · rw [exec_acqConfig asked addressed]
    refine ⟨fun beyond => ?_, fun single armed => ?_, ?_⟩
    · rw [takeAcqConfig_refusedRange beyond, refusedRange_replyTo]
    · rw [single, takeAcqConfig_refusedState (s := s.dropped rest) armed, refusedState_replyTo]
    · rintro (continuous | ⟨single, off⟩) k
      · subst continuous
        rw [takeAcqConfig_continuous, configureAcq_replyTo]
        rfl
      · subst single
        rw [takeAcqConfig_single (s := s.dropped rest) off, configureAcq_replyTo]
        rfl
  · rw [exec_acqSingle asked addressed]
    refine ⟨fun single idle free => ?_, fun busy => ?_⟩
    · rw [takeAcqSingle_ok (s := s.dropped rest) single idle free, accepted_setAcq_replyTo _ _ _ _ _ _ rfl]
      rfl
    · rw [takeAcqSingle_refused (s := s.dropped rest) busy, refusedState_replyTo]

end Sys2Proof.Machine
end


section
/-! PROOFS. Signal acquisition, the estimator: what its reports read of the state, the state that a snapshot leaves, and
each of its functions in the words of the spec. -/

namespace Sys2Proof.Machine

/-! ## The reports -/

/-- A choice to report on equal conditions keeps the agreement. -/
theorem SameReports.ite {s t u v : State} {p : Prop} [Decidable p] (yes : SameReports s t) (no : SameReports u v) :
    SameReports (if p then s else u) (if p then t else v) := by
  split
  · exact yes
  · exact no

/-- What the estimator reports reads the fault unit, the counters, the queue, the parameters and the notifications
alone. -/
theorem SameReports.reportSnapshot {s t : State} (h : SameReports s t) (before after : Estimator) :
    SameReports (reportSnapshot before after s) (reportSnapshot before after t) := by
  have bar := (h.detect .barRange).ite (p := rises before.railBar after.railBar = true) h
  have samples := (bar.increment .disagreeSamples).ite (p := after.meas = .held) bar
  have disagree := (samples.detect .leanDisagree).ite (p := rises before.disagree.value after.disagree.value = true)
    samples
  have lean := (disagree.detect .leanRange).ite
    (p := (rises before.railA after.railA || rises before.railB after.railB) = true) disagree
  have stand := lean.ite (p := before.stand.value = after.stand.value) (lean.post (.standChange after.stand.value))
  exact (stand.detect .leanExcess).ite (p := rises before.excess.value after.excess.value = true) stand

/-! ## The state that a snapshot leaves -/

/-- A snapshot at the estimator: the estimator's own next state, its reports as on the state before, and the estimate
behind those sent before. -/
theorem takeSnapshotAtEstimator_eq (s : State) (n : Snapshot) (rest : List Snapshot) :
    let after := s.est.next s.params n
    let r := reportSnapshot s.est after s
    takeSnapshotAtEstimator n (s.setFlight { s.flight with snapEst := rest }) =
      { s with
        est := after, faults := r.faults, stats := r.stats, notices := r.notices
        flight := { s.flight with
          snapEst := rest
          notifications := r.flight.notifications
          estimates := s.flight.estimates ++ [estimateOf after s.params n] } } := by
  intro after r
  have same : SameReports ((s.setFlight { s.flight with snapEst := rest }).setEst after) s :=
    ⟨rfl, rfl, rfl, rfl, rfl⟩
  obtain ⟨faults, stats, notices, -, notifications⟩ := same.reportSnapshot s.est after
  unfold takeSnapshotAtEstimator
  apply State.ext_blocks
  case h11 => exact faults
  case h12 => exact stats
  case h13 => exact notices
  case h16 =>
    apply Flight.ext_lists
    case h9 => exact notifications
    all_goals simp [after]
  all_goals simp [after]

/-- A snapshot taken out of its list. -/
theorem exec_snapshotAtEstimator {s : State} {n : Snapshot} {rest : List Snapshot}
    (hf : s.flight.snapEst = n :: rest) :
    exec .snapshotAtEstimator s =
      .next (takeSnapshotAtEstimator n (s.setFlight { s.flight with snapEst := rest })) := by
  simp only [exec, execSnapshotAtEstimator, hf]

/-- Settles O10: the reports are those on the state before the snapshot. -/
theorem estimatorReports : Obligations.EstimatorReports := by
  intro s n rest hf
  refine ⟨_, exec_snapshotAtEstimator hf, ?_⟩
  rw [takeSnapshotAtEstimator_eq]
  exact ⟨rfl, rfl, rfl, rfl, rfl, rfl, rfl⟩

/-! ## The estimator's functions -/

/-- Agreement is checked while neither lean input is at rail, and otherwise forgotten (03 R62). -/
theorem disagreeAfter_eq (p : Params) (n : Snapshot) (q : Qual) :
    disagreeAfter p n q =
      if n.rail.leanA || n.rail.leanB then { value := false, run := 0 }
      else q.eval (disagreeRaw p (phiA p n) (phiB p n)) := by
  unfold disagreeAfter rawDisagreement leanUsable
  cases n.rail.leanA <;> cases n.rail.leanB <;> simp [Qual.start]

/-- The rows of 03 R63 in order; where the disagreement is looked at, both inputs are usable. -/
theorem measure_eq (p : Params) (n : Snapshot) (disagree : Qual) (kept : Int) :
    measure p n disagree kept =
      if n.rail.leanA && n.rail.leanB then (.lost, kept)
      else if n.rail.leanA then (.single, phiB p n)
      else if n.rail.leanB then (.single, phiA p n)
      else if disagree.value then (.lost, kept)
      else if disagreeRaw p (phiA p n) (phiB p n) then (.held, kept)
      else (.valid, (phiA p n + phiB p n).tdiv 2) := by
  unfold measure rawDisagreement leanUsable
  cases n.rail.leanA <;> cases n.rail.leanB <;> simp

/-- A rate over the eight intervals between nine records, 0 for any other number of them (05 R82). -/
def rateOverNine (ring : List RingRecord) (value : RingRecord → Int) : Int :=
  match ring with
  | [oldest, _, _, _, _, _, _, _, newest] => clampMag 30000 ((value newest - value oldest) * 125)
  | _ => 0

/-- The oldest and the newest record of a full ring are the first and the last of nine. -/
theorem rateOf_eq (ring : List RingRecord) (value : RingRecord → Int) :
    rateOf ring value = rateOverNine ring value := by
  unfold rateOverNine
  split
  case h_1 => rfl
  case h_2 other =>
    refine if_neg fun full => ?_
    match ring, full with
    | [o, a, b, c, d, e, f, g, l], _ => exact other o a b c d e f g l rfl

/-- Settles O9: the estimator's next state function by function, in the state that the snapshot leaves. -/
theorem snapshotIsEstimated : Obligations.SnapshotIsEstimated := by
  intro s n rest hf phA phB bar apart
  refine ⟨_, exec_snapshotAtEstimator hf, ?_⟩
  rw [takeSnapshotAtEstimator_eq]
  refine ⟨disagreeAfter_eq _ _ _, measure_eq _ _ _ _, rfl, rateOf_eq _ _, ?_, rfl, rfl, rfl⟩
  exact ite_congr rfl (fun _ => rfl) fun _ => rateOf_eq _ _

end Sys2Proof.Machine
end


section
/-! PROOFS. The wheel: a glitch past the wheel speed unit's own update, a pulse that is a glitch and one that is
accepted; and from that the pulse and the evaluation. -/

namespace Sys2Proof.Machine

/-! ## The unit's functions -/

/-- The speed of a time is cut off at 2500 (04 R72). -/
theorem speedFrom_eq (circ teeth : Int) (micros : Nat) :
    speedFrom circ teeth micros = min ((circ * 100000).tdiv (teeth * micros)) 2500 := by
  unfold speedFrom
  dsimp only
  split <;> omega

/-- A time that is held goes on up to 500 000 µs (04 R69). -/
theorem timeSince_some (t elapsed : Nat) : timeSince (some t) elapsed = some (min (t + elapsed) 500000) := rfl

/-- The unit after a glitch that came `t` µs after the last accepted pulse (04 R70). -/
def WheelUnit.glitched (u : WheelUnit) (t elapsed : Nat) : WheelUnit :=
  { u with
    sincePulse := some t
    glitches := if u.glitches < 3 then u.glitches + 1 else 0
    evalLeft := u.evalLeft - elapsed }

/-- The unit after an expiry that was due (04 R73). -/
def WheelUnit.expired (u : WheelUnit) (circ teeth : Int) (elapsed : Nat) : WheelUnit :=
  { u with
    sincePulse := timeSince u.sincePulse elapsed
    v := u.evaluated circ teeth (timeSince u.sincePulse elapsed)
    evalLeft := 1000 - (elapsed - u.evalLeft) % 1000 }

/-! ## WHEEL_PULSE -/

/-- An increment reads nothing of the wheel speed unit. -/
theorem increment_wheelOverlay (s : State) (u : WheelUnit) (id : CounterId) :
    increment { s with wheel := u } id = { increment s id with wheel := u } := by
  obtain ⟨stats, notices⟩ := increment_congr (s := { s with wheel := u }) (t := s) id rfl rfl rfl
  apply State.ext_blocks <;> simp [stats, notices]

/-- A detection reads nothing of the wheel speed unit. -/
theorem detect_wheelOverlay (s : State) (u : WheelUnit) (k : FaultKind) :
    detect { s with wheel := u } k = { detect s k with wheel := u } := by
  have same : SameReports { s with wheel := u } s := ⟨rfl, rfl, rfl, rfl, rfl⟩
  refine (detect_of_sameReports same k).trans ?_
  apply State.ext_blocks
  case h16 => apply Flight.ext_lists <;> simp
  all_goals simp

/-- A glitch is counted, the fourth of a run reported, and the run goes on or starts anew. -/
theorem takeGlitch_wheelOverlay (s : State) (u : WheelUnit) :
    takeGlitch { s with wheel := u } =
      { (if u.glitches < 3 then increment s .speedGlitches else detect (increment s .speedGlitches) .speedNoise) with
        wheel := { u with glitches := if u.glitches < 3 then u.glitches + 1 else 0 } } := by
  have counted := increment_wheelOverlay s u .speedGlitches
  unfold takeGlitch
  dsimp only
  rw [counted]
  by_cases early : u.glitches < 3
  case pos =>
    rw [if_pos (show u.glitches + 1 < 4 by omega), if_pos early, if_pos early]
    rfl
  case neg =>
    rw [if_neg (show ¬ u.glitches + 1 < 4 by omega), if_neg early, if_neg early]
    exact detect_wheelOverlay (increment s .speedGlitches) _ .speedNoise

/-- A pulse within 200 µs of the last accepted one is a glitch (04 R70). -/
theorem exec_wheelPulse_glitch {s : State} {elapsed t : Nat} (since : timeSince s.wheel.sincePulse elapsed = some t)
    (early : t < 200) :
    exec (.wheelPulse elapsed) s =
      .next { (if s.wheel.glitches < 3 then increment s .speedGlitches
          else detect (increment s .speedGlitches) .speedNoise) with wheel := s.wheel.glitched t elapsed } := by
  simp only [exec, execWheelPulse, since, Config.glitchWindow, early, decide_true, if_true]
  exact congrArg _ (takeGlitch_wheelOverlay s _)

/-- Any other pulse is accepted (04 R71). -/
theorem exec_wheelPulse_accepted {s : State} {elapsed : Nat}
    (late : ∀ t, timeSince s.wheel.sincePulse elapsed = some t → 200 ≤ t) :
    exec (.wheelPulse elapsed) s =
      .next { s with
        wheel := s.wheel.accept s.params.wheelCirc s.params.wheelTeeth (timeSince s.wheel.sincePulse elapsed) } := by
  refine if_neg (c := _ = true) ?_
  cases since : timeSince s.wheel.sincePulse elapsed with
  | none => simp
  | some t => simp [Config.glitchWindow, Nat.not_lt.mpr (late t since)]

/-- Settles O29: by whether a pulse is held, and where the time since it falls. -/
theorem wheelPulseSetsTheSpeed : Obligations.WheelPulseSetsTheSpeed := by
  intro s elapsed
  refine ⟨fun first => ?_, ?_⟩
  · rw [exec_wheelPulse_accepted (by simp [first, timeSince]), first]
    rfl
  · intro since held x
    have past : timeSince s.wheel.sincePulse elapsed = some x := held ▸ timeSince_some since elapsed
    refine ⟨fun early => exec_wheelPulse_glitch past early, fun late running => ?_, fun stopped => ?_⟩
    · rw [exec_wheelPulse_accepted (by simpa [past] using late), past]
      simp [WheelUnit.accept, Config.stopTime, Config.evaluationStep, running, speedFrom_eq]
    · rw [exec_wheelPulse_accepted (by simp [past]; omega), past]
      simp [WheelUnit.accept, Config.stopTime, Config.evaluationStep, Nat.not_lt.mpr stopped]

/-! ## EVALUATION_TIMER_EXPIRY -/

/-- An expiry is due at the end of its step, and when it meets an accepted pulse taken before it (04 R69, R74). -/
theorem WheelUnit.expiryDue_iff (u : WheelUnit) (elapsed : Nat) :
    u.expiryDue elapsed = true ↔ u.evalLeft ≤ elapsed ∨ (elapsed = 0 ∧ u.sincePulse = some 0) := by
  simp [WheelUnit.expiryDue]

/-- The five tests of an expiry (04 R73); the time since the last pulse stops at 500 000 µs, so it is never past it. -/
theorem WheelUnit.evaluated_eq (u : WheelUnit) (circ teeth : Int) (elapsed : Nat) :
    u.evaluated circ teeth (timeSince u.sincePulse elapsed) =
      match timeSince u.sincePulse elapsed, u.period with
      | none, _ => u.v
      | some x, none => if x = 500000 then 0 else u.v
      | some x, some p =>
        if x = 500000 then 0 else if p < x then min ((circ * 100000).tdiv (teeth * x)) 2500 else u.v := by
  cases u.sincePulse with
  | none => rfl
  | some t =>
    have stops : Config.stopTime ≤ min (t + elapsed) 500000 ↔ min (t + elapsed) 500000 = 500000 := by
      unfold Config.stopTime
      omega
    rw [timeSince_some]
    cases period : u.period <;> simp only [WheelUnit.evaluated, period, stops, speedFrom_eq]

/-- An expiry that is due is an evaluation (04 R73). -/
theorem exec_evaluation_due {s : State} {elapsed : Nat} (due : s.wheel.expiryDue elapsed = true) :
    exec (.evaluationTimerExpiry elapsed) s =
      .next { s with wheel := s.wheel.expired s.params.wheelCirc s.params.wheelTeeth elapsed } :=
  if_pos due

/-- An expiry that is not due changes nothing (log 4). -/
theorem exec_evaluation_idle {s : State} {elapsed : Nat} (idle : ¬ s.wheel.expiryDue elapsed = true) :
    exec (.evaluationTimerExpiry elapsed) s = .next s :=
  if_neg idle

/-- Settles O30: by whether the expiry is due, and then by the five tests. -/
theorem evaluationLowersTheSpeed : Obligations.EvaluationLowersTheSpeed := by
  intro s elapsed
  rw [← s.wheel.expiryDue_iff elapsed]
  refine ⟨fun due => ?_, exec_evaluation_idle⟩
  rw [exec_evaluation_due due, WheelUnit.expired, WheelUnit.evaluated_eq]
  rfl

end Sys2Proof.Machine
end


section
/-! PROOFS. The lean computation, the laws: what a step can do to the parameters, the wheel speed unit, the estimator
and the target generator, said once; and the laws that each such move keeps. -/

namespace Sys2Proof.Machine

/-! ## Parameters in range -/

/-- The numeric part of the parameter law, of the parameters alone (11 R173, R174). -/
structure Params.InRange (p : Params) : Prop where
  numeric : ∀ n : NumParam, n.range.1 ≤ p.num n ∧ p.num n ≤ n.range.2
  speeds : p.vCapture + 50 ≤ p.vRelease
  strokes : p.strokeClosedMax + 256 ≤ p.strokeOpenMin

theorem State.ParamLaw.inRange {s : State} (h : s.ParamLaw) : s.params.InRange := ⟨h.numeric, h.speeds, h.strokes⟩

theorem Params.start_inRange : Params.start.InRange := ⟨fun n => by cases n <;> decide, by decide, by decide⟩

theorem Params.InRange.leanLimit_nonneg {p : Params} (h : p.InRange) : 0 ≤ p.leanLimit :=
  Int.le_trans (by decide) (h.numeric .leanLimit).1

theorem Params.InRange.rLean_nonneg {p : Params} (h : p.InRange) : 0 ≤ p.rLean :=
  Int.le_trans (by decide) (h.numeric .rLean).1

theorem Params.InRange.rCapture_nonneg {p : Params} (h : p.InRange) : 0 ≤ p.rCapture :=
  Int.le_trans (by decide) (h.numeric .rCapture).1

theorem Params.InRange.wheelCirc_nonneg {p : Params} (h : p.InRange) : 0 ≤ p.wheelCirc :=
  Int.le_trans (by decide) (h.numeric .wheelCirc).1

theorem Params.InRange.wheelTeeth_nonneg {p : Params} (h : p.InRange) : 0 ≤ p.wheelTeeth :=
  Int.le_trans (by decide) (h.numeric .wheelTeeth).1

/-- A store with the same numeric values is as much in range. -/
theorem Params.InRange.of_num_eq {p q : Params} (h : p.InRange) (same : ∀ n, q.num n = p.num n) : q.InRange where
  numeric n := (same n).symm ▸ h.numeric n
  speeds := ((same .vCapture).symm ▸ (same .vRelease).symm ▸ h.speeds : q.num .vCapture + 50 ≤ q.num .vRelease)
  strokes :=
    ((same .strokeClosedMax).symm ▸ (same .strokeOpenMin).symm ▸ h.strokes :
      q.num .strokeClosedMax + 256 ≤ q.num .strokeOpenMin)

/-- The parameter just written is read back. -/
theorem Params.num_setNum_self (p : Params) (n : NumParam) (x : Int) : (p.setNum n x).num n = x := by
  cases n <;> rfl

/-- Every other parameter is as before. -/
theorem Params.num_setNum_of_ne (p : Params) {n m : NumParam} (x : Int) (h : m ≠ n) :
    (p.setNum n x).num m = p.num m := by
  cases n <;> cases m <;> first | rfl | exact absurd rfl h

theorem clampTo_mem {lo hi : Int} (h : lo ≤ hi) (x : Int) : lo ≤ clampTo lo hi x ∧ clampTo lo hi x ≤ hi := by
  unfold clampTo
  split
  · omega
  · split <;> omega

theorem NumParam.range_ordered (n : NumParam) : n.range.1 ≤ n.range.2 := by cases n <;> decide

/-- What a write stores is in range: the bound of a cross-clamp lies between the value held and the end of the range
that it clamps toward (11 R174). -/
theorem Params.InRange.clampNum_mem {p : Params} (h : p.InRange) (n : NumParam) (x : Int) :
    n.range.1 ≤ p.clampNum n x ∧ p.clampNum n x ≤ n.range.2 := by
  obtain ⟨low, high⟩ := clampTo_mem n.range_ordered x
  obtain ⟨heldLow, heldHigh⟩ := h.numeric n
  cases n
  case vRelease => exact ⟨Int.le_trans low (Int.le_max_left _ _), Int.max_le.mpr ⟨high, Int.le_trans h.speeds heldHigh⟩⟩
  case vCapture =>
    have room := Int.le_trans heldLow (Int.le_sub_right_of_add_le h.speeds)
    exact ⟨Int.le_min.mpr ⟨low, room⟩, Int.le_trans (Int.min_le_left _ _) high⟩
  case strokeClosedMax =>
    have room := Int.le_trans heldLow (Int.le_sub_right_of_add_le h.strokes)
    exact ⟨Int.le_min.mpr ⟨low, room⟩, Int.le_trans (Int.min_le_left _ _) high⟩
  case strokeOpenMin =>
    exact ⟨Int.le_trans low (Int.le_max_left _ _), Int.max_le.mpr ⟨high, Int.le_trans h.strokes heldHigh⟩⟩
  all_goals exact ⟨low, high⟩

/-- A numeric write keeps every parameter in range and the pairs apart (11 R174). -/
theorem Params.InRange.write {p : Params} (h : p.InRange) (n : NumParam) (x : Int) :
    (p.setNum n (p.clampNum n x)).InRange where
  numeric m := by
    by_cases written : m = n
    · subst written
      rw [Params.num_setNum_self]
      exact h.clampNum_mem m x
    · rw [Params.num_setNum_of_ne p _ written]
      exact h.numeric m
  speeds := by
    cases n
    case vRelease => exact Int.le_max_right _ _
    case vCapture => exact Int.add_le_of_le_sub_right (Int.min_le_right _ _)
    all_goals exact h.speeds
  strokes := by
    cases n
    case strokeClosedMax => exact Int.add_le_of_le_sub_right (Int.min_le_right _ _)
    case strokeOpenMin => exact Int.le_max_right _ _
    all_goals exact h.strokes

/-! ## The moves -/

/-- What the laws of the lean computation read of a state. -/
structure LeanView where
  params : Params
  wheel : WheelUnit
  est : Estimator
  target : TargetGen

/-- What the laws of the lean computation read of this state. -/
def State.leanView (s : State) : LeanView :=
  { params := s.params, wheel := s.wheel, est := s.est, target := s.target }

/-- The target generator after a leaning or holding step (05 R96). -/
def TargetGen.moved (g : TargetGen) (target rate : Int) : TargetGen :=
  { g with
    target := some target, phiCmd := stepToward target rate g.phiCmd, limited := stepLimited target rate g.phiCmd }

/-- The target generator with this commanded lean and no target (05 R97, R98). -/
def TargetGen.follows (g : TargetGen) (cmd : Int) : TargetGen :=
  { g with target := none, phiCmd := cmd, limited := false }

/-- The moves of the four blocks, each with the condition under which it is made (03 R63, 04 R70 to R78, 05 R86 to R101,
11 R174). -/
inductive LeanMove (v : LeanView) : LeanView → Prop
  | coldReset : LeanMove v { params := .start, wheel := .start, est := .start, target := .start .zero }
  | warmReset : LeanMove v { v with wheel := .start, est := .start, target := .start v.target.map }
  | stored (p : Params) (same : ∀ n, p.num n = v.params.num n) : LeanMove v { v with params := p }
  | written (n : NumParam) (x : Int) (other : n ≠ .leanLimit) :
      LeanMove v { v with params := v.params.setNum n (v.params.clampNum n x) }
  | limitWritten (x : Int) :
      LeanMove v
        { v with
          params := { v.params with leanLimit := v.params.clampNum .leanLimit x }
          target := { v.target with phiCmd := clampMag (v.params.clampNum .leanLimit x) v.target.phiCmd } }
  | glitch (t elapsed : Nat) (early : t < 200) : LeanMove v { v with wheel := v.wheel.glitched t elapsed }
  | accepted (elapsed : Nat) (late : ∀ t, timeSince v.wheel.sincePulse elapsed = some t → 200 ≤ t) :
      LeanMove v
        { v with
          wheel := v.wheel.accept v.params.wheelCirc v.params.wheelTeeth (timeSince v.wheel.sincePulse elapsed) }
  | evaluated (elapsed : Nat) :
      LeanMove v { v with wheel := v.wheel.expired v.params.wheelCirc v.params.wheelTeeth elapsed }
  | snapshot (n : Snapshot) : LeanMove v { v with est := v.est.next v.params n }
  | mapWritten (m : LeanMap) : LeanMove v { v with target := { v.target with map := m } }
  | leaned (raw : Int) :
      LeanMove v { v with target := v.target.moved (clampMag v.params.leanLimit raw) v.params.rLean }
  | righted : LeanMove v { v with target := v.target.moved 0 v.params.rCapture }
  | followed (phi : Int) : LeanMove v { v with target := v.target.follows (clampMag v.params.leanLimit phi) }
  | leftAlone : LeanMove v { v with target := v.target.follows v.target.phiCmd }

/-- Any number of moves, one after another. -/
inductive LeanMoves (v : LeanView) : LeanView → Prop
  | refl : LeanMoves v v
  | tail {u w : LeanView} (before : LeanMoves v u) (last : LeanMove u w) : LeanMoves v w

theorem LeanMoves.single {v w : LeanView} (m : LeanMove v w) : LeanMoves v w := .tail .refl m

theorem LeanMoves.trans {u v w : LeanView} (first : LeanMoves u v) (second : LeanMoves v w) : LeanMoves u w := by
  induction second with
  | refl => exact first
  | tail _ last ih => exact ih.tail last

/-! ## What each move keeps -/

/-- The parameters stay in range. -/
theorem LeanMove.inRange {v w : LeanView} (m : LeanMove v w) (h : v.params.InRange) : w.params.InRange := by
  cases m
  case coldReset => exact Params.start_inRange
  case stored same => exact h.of_num_eq same
  case written n x _ => exact h.write n x
  case limitWritten x => exact h.write .leanLimit x
  all_goals exact h

/-! ### The commanded lean -/

theorem Within.of_limit_eq {l m x : Int} (h : Within l x) (same : m = l) : Within m x := same ▸ h

theorem clampMag_within {l : Int} (h : 0 ≤ l) (x : Int) : Within l (clampMag l x) := by
  unfold Within clampMag
  split
  · omega
  · split <;> omega

/-- A step from within the limit toward a target within it ends within it: it does not go past the target. -/
theorem stepToward_within {l target rate cmd : Int} (ht : Within l target) (hr : 0 ≤ rate) (hc : Within l cmd) :
    Within l (stepToward target rate cmd) := by
  unfold stepToward
  split
  case isTrue => exact ht
  case isFalse far =>
    unfold Within mag at *
    split at far <;> split <;> omega

/-- The command law is of the commanded lean and LEAN_LIMIT alone (05 R100). -/
theorem State.commandLaw_iff (s : State) :
    s.CommandLaw ↔ Within s.leanView.params.leanLimit s.leanView.target.phiCmd := Iff.rfl

/-- The commanded lean moves toward what is within the limit, and a new limit clamps it. -/
theorem LeanMove.commandLaw {v w : LeanView} (m : LeanMove v w) (range : v.params.InRange)
    (h : Within v.params.leanLimit v.target.phiCmd) : Within w.params.leanLimit w.target.phiCmd := by
  have limit := range.leanLimit_nonneg
  have upright : Within v.params.leanLimit 0 := ⟨Int.neg_nonpos_of_nonneg limit, limit⟩
  cases m
  case coldReset => exact ⟨by decide, by decide⟩
  case warmReset => exact upright
  case stored p same => exact h.of_limit_eq (same .leanLimit)
  case written n x other => exact h.of_limit_eq (v.params.num_setNum_of_ne (v.params.clampNum n x) other.symm)
  case limitWritten x => exact clampMag_within (range.write .leanLimit x).leanLimit_nonneg _
  case leaned raw => exact stepToward_within (clampMag_within limit raw) range.rLean_nonneg h
  case righted => exact stepToward_within upright range.rCapture_nonneg h
  case followed phi => exact clampMag_within limit phi
  all_goals exact h

/-! ### The speed -/

/-- The wheel law, of the unit alone (04 R68, R73). -/
structure WheelUnit.Lawful (u : WheelUnit) : Prop where
  range : 0 ≤ u.v ∧ u.v ≤ 2500
  stopped : u.sincePulse = some 500000 → u.v = 0
  since : ∀ t, u.sincePulse = some t → t ≤ 500000
  period : ∀ t, u.period = some t → 200 ≤ t ∧ t ≤ 499999
  glitches : u.glitches ≤ 3

theorem State.wheelLaw_iff (s : State) : s.WheelLaw ↔ s.leanView.wheel.Lawful :=
  ⟨fun ⟨range, stopped, since, period, glitches⟩ => ⟨range, stopped, since, period, glitches⟩,
    fun ⟨range, stopped, since, period, glitches⟩ => ⟨range, stopped, since, period, glitches⟩⟩

theorem WheelUnit.start_lawful : WheelUnit.start.Lawful := ⟨by decide, nofun, nofun, nofun, by decide⟩

/-- A speed is in range whatever the time it is computed from (04 R72). -/
theorem speedFrom_mem {circ teeth : Int} (hc : 0 ≤ circ) (ht : 0 ≤ teeth) (micros : Nat) :
    0 ≤ speedFrom circ teeth micros ∧ speedFrom circ teeth micros ≤ 2500 := by
  have quotient : 0 ≤ (circ * 100000).tdiv (teeth * micros) :=
    Int.tdiv_nonneg (by omega) (Int.mul_nonneg ht (by omega))
  rw [speedFrom_eq]
  omega

/-- A time that is held is at most 500 000 µs (04 R69). -/
theorem timeSince_le {since : Option Nat} {elapsed t : Nat} (h : timeSince since elapsed = some t) : t ≤ 500000 := by
  obtain ⟨_, -, rfl⟩ := Option.map_eq_some_iff.mp h
  exact Nat.min_le_right _ _

/-- A glitch leaves the speed and the period, and its time is short of standstill. -/
theorem WheelUnit.Lawful.glitched {u : WheelUnit} (h : u.Lawful) {t : Nat} (early : t < 200) (elapsed : Nat) :
    (u.glitched t elapsed).Lawful where
  range := h.range
  stopped still := absurd (Option.some.inj still) (by omega)
  since x held := by cases held; omega
  period := h.period
  glitches := by
    unfold WheelUnit.glitched
    dsimp only
    split <;> omega

/-- An accepted pulse sets the speed from its period, or starts anew with the speed as it was. -/
theorem WheelUnit.Lawful.accept {u : WheelUnit} (h : u.Lawful) {circ teeth : Int} (hc : 0 ≤ circ) (ht : 0 ≤ teeth)
    {since : Option Nat} (late : ∀ t, since = some t → 200 ≤ t) : (u.accept circ teeth since).Lawful := by
  have now : ∀ t, some 0 = some t → t ≤ 500000 := fun t held => by cases held; omega
  unfold WheelUnit.accept
  dsimp only
  split
  case h_2 => exact ⟨h.range, nofun, now, nofun, Nat.zero_le 3⟩
  case h_1 t =>
    split
    case isTrue running =>
      refine ⟨speedFrom_mem hc ht t, nofun, now, fun x held => ?_, Nat.zero_le 3⟩
      cases held
      exact ⟨late t rfl, Nat.le_of_lt_succ running⟩
    case isFalse => exact ⟨h.range, nofun, now, nofun, Nat.zero_le 3⟩

/-- The speed after an evaluation is as before, from the formula, or 0. -/
theorem WheelUnit.Lawful.evaluated_mem {u : WheelUnit} (h : u.Lawful) {circ teeth : Int} (hc : 0 ≤ circ)
    (ht : 0 ≤ teeth) (since : Option Nat) :
    0 ≤ u.evaluated circ teeth since ∧ u.evaluated circ teeth since ≤ 2500 := by
  unfold WheelUnit.evaluated
  split
  · exact h.range
  · split
    · decide
    · split
      · exact h.range
      · split
        · exact speedFrom_mem hc ht _
        · exact h.range

/-- An evaluation at standstill makes the speed 0 (04 R73). -/
theorem WheelUnit.Lawful.expired {u : WheelUnit} (h : u.Lawful) {circ teeth : Int} (hc : 0 ≤ circ) (ht : 0 ≤ teeth)
    (elapsed : Nat) : (u.expired circ teeth elapsed).Lawful where
  range := h.evaluated_mem hc ht _
  stopped still := by
    have past : timeSince u.sincePulse elapsed = some 500000 := still
    simp [WheelUnit.expired, past, WheelUnit.evaluated, Config.stopTime]
  since t held := timeSince_le held
  period := h.period
  glitches := h.glitches

/-- The unit's own events and the resets alone move the wheel. -/
theorem LeanMove.wheelLaw {v w : LeanView} (m : LeanMove v w) (range : v.params.InRange) (h : v.wheel.Lawful) :
    w.wheel.Lawful := by
  cases m
  case coldReset => exact WheelUnit.start_lawful
  case warmReset => exact WheelUnit.start_lawful
  case glitch t elapsed early => exact h.glitched early elapsed
  case accepted late => exact h.accept range.wheelCirc_nonneg range.wheelTeeth_nonneg late
  case evaluated elapsed => exact h.expired range.wheelCirc_nonneg range.wheelTeeth_nonneg elapsed
  all_goals exact h

/-! ### The ring -/

/-- The ring law, of the estimator alone (05 R79, R81). -/
structure Estimator.Lawful (e : Estimator) : Prop where
  size : e.ring.length ≤ 9
  rates : e.phiRate ≠ 0 ∨ e.barRate ≠ 0 → e.ring.length = 9
  lost : e.meas = .lost → e.ring = []

theorem State.ringLaw_iff (s : State) : s.RingLaw ↔ s.leanView.est.Lawful :=
  ⟨fun ⟨size, rates, lost⟩ => ⟨size, rates, lost⟩, fun ⟨size, rates, lost⟩ => ⟨size, rates, lost⟩⟩

theorem Estimator.start_lawful : Estimator.start.Lawful := ⟨by decide, by decide, fun _ => rfl⟩

/-- A push makes room where nine are held (05 R80). -/
theorem pushRecord_length_le {ring : List RingRecord} (h : ring.length ≤ 9) (r : RingRecord) :
    (pushRecord ring r).length ≤ 9 := by
  unfold pushRecord
  split
  case isTrue room =>
    rw [List.length_append]
    exact Nat.succ_le_of_lt room
  case isFalse =>
    rw [List.length_append, List.length_tail]
    exact Nat.add_le_add_right (Nat.sub_le_sub_right h 1) 1

/-- A ring that is not full has no rate (05 R82). -/
theorem length_of_rateOf_ne_zero {ring : List RingRecord} {value : RingRecord → Int} (h : rateOf ring value ≠ 0) :
    ring.length = 9 :=
  Decidable.byContradiction fun short => h (if_neg short)

/-- A snapshot pushes one record, or leaves LOST with the ring empty. -/
theorem Estimator.Lawful.next {e : Estimator} (h : e.Lawful) (p : Params) (n : Snapshot) : (e.next p n).Lawful where
  size := by
    show (ringAfter _ _ _ _).length ≤ 9
    unfold ringAfter
    split
    · split
      · exact h.size
      · decide
    · exact pushRecord_length_le h.size _
  rates moving := by
    rcases moving with phi | bar
    · exact length_of_rateOf_ne_zero phi
    · exact length_of_rateOf_ne_zero fun still => bar ((congrArg (ite (n.rail.bar = true) 0) still).trans (ite_self 0))
  lost after := by
    refine (if_pos after).trans ?_
    split
    case isTrue before => exact h.lost before
    case isFalse => rfl

/-- The snapshots and the resets alone move the estimator. -/
theorem LeanMove.ringLaw {v w : LeanView} (m : LeanMove v w) (h : v.est.Lawful) : w.est.Lawful := by
  cases m
  case coldReset => exact Estimator.start_lawful
  case warmReset => exact Estimator.start_lawful
  case snapshot n => exact h.next v.params n
  all_goals exact h

/-! ## Every step is made of moves -/

/-- An update of blocks that the view does not read leaves it. -/
theorem State.leanView_eq {s t : State} (params : t.params = s.params) (wheel : t.wheel = s.wheel)
    (est : t.est = s.est) (target : t.target = s.target) : t.leanView = s.leanView := by
  simp only [State.leanView, params, wheel, est, target]

@[simp] theorem increment_leanView (s : State) (id : CounterId) : (increment s id).leanView = s.leanView :=
  State.leanView_eq (by simp) (by simp) (by simp) (by simp)

@[simp] theorem putReply_leanView (s : State) (f : Frame) (st : Status) (p : List Byte) :
    (putReply s f st p).leanView = s.leanView :=
  State.leanView_eq (by simp) (by simp) (by simp) (by simp)

theorem warmReset_leanMove (s : State) : LeanMove s.leanView (warmReset s).leanView := by
  have view : (warmReset s).leanView = (warmBlocks s).leanView := (congrArg State.leanView (warmReset_blocks s) :)
  exact view ▸ .warmReset

/-! ### The wheel speed unit -/

/-- A pulse is a glitch or accepted. -/
theorem exec_wheelPulse_move {s t : State} {elapsed : Nat} (h : exec (.wheelPulse elapsed) s = .next t) :
    LeanMove s.leanView t.leanView := by
  have accepted : (∀ x, timeSince s.wheel.sincePulse elapsed = some x → 200 ≤ x) → LeanMove s.leanView t.leanView := by
    intro late
    rw [exec_wheelPulse_accepted late] at h
    cases h
    exact .accepted elapsed late
  cases since : timeSince s.wheel.sincePulse elapsed with
  | none => exact accepted fun x held => nomatch since.symm.trans held
  | some x =>
    by_cases early : x < 200
    case pos =>
      rw [exec_wheelPulse_glitch since early] at h
      cases h
      have := LeanMove.glitch (v := s.leanView) x elapsed early
      split <;> simpa [State.leanView] using this
    case neg => exact accepted fun y held => Option.some.inj (since.symm.trans held) ▸ Nat.not_lt.mp early

/-- An expiry evaluates the speed, or changes nothing. -/
theorem exec_evaluation_moves {s t : State} {elapsed : Nat} (h : exec (.evaluationTimerExpiry elapsed) s = .next t) :
    LeanMoves s.leanView t.leanView := by
  by_cases due : s.wheel.expiryDue elapsed = true
  case pos =>
    rw [exec_evaluation_due due] at h
    cases h
    exact .single (.evaluated elapsed)
  case neg =>
    rw [exec_evaluation_idle due] at h
    cases h
    exact .refl

/-! ### The estimator -/

/-- A report writes none of the four blocks. -/
theorem reportSnapshot_leanView (before after : Estimator) (s : State) :
    (reportSnapshot before after s).leanView = s.leanView :=
  State.leanView_eq (by simp) (by simp) (by simp) (by simp)

theorem takeSnapshotAtEstimator_move (n : Snapshot) (s : State) :
    LeanMove s.leanView (takeSnapshotAtEstimator n s).leanView := by
  have view : (takeSnapshotAtEstimator n s).leanView = (s.setEst (s.est.next s.params n)).leanView :=
    reportSnapshot_leanView s.est (s.est.next s.params n) (s.setEst (s.est.next s.params n))
  exact view ▸ .snapshot n

/-! ### The target generator -/

/-- A leaning or holding step, counted or not. -/
theorem moveToward_leanView (s : State) (target rate : Int) :
    (moveToward s target rate).leanView = { s.leanView with target := s.leanView.target.moved target rate } := by
  unfold moveToward
  dsimp only
  split
  · exact increment_leanView _ _
  · rfl

/-- A leaning decision moves toward its target clamped to the limit, counted or not (05 R92, R96). -/
theorem lean_move (s : State) (e : Estimate) : LeanMove s.leanView (lean s e).leanView := by
  unfold lean
  dsimp only
  rw [moveToward_leanView]
  split
  · rw [increment_leanView]
    exact .leaned _
  · exact .leaned _

/-- A decision leans, rights, follows, or leaves the commanded lean alone, by its kind. -/
theorem takeDecision_move (d : Decision) (s : State) : LeanMove s.leanView (takeDecision d s).leanView := by
  show LeanMove s.leanView (formTarget s d).leanView
  unfold formTarget
  split
  case h_1 => exact lean_move s d.est
  case h_2 => exact moveToward_leanView s 0 s.params.rCapture ▸ .righted
  case h_3 =>
    unfold follow
    split
    · exact .followed _
    · exact .followed _
    · exact .leftAlone
    · exact .leftAlone

/-- MAP_WRITE replaces the map, or changes nothing. -/
theorem takeMapWrite_moves (r : Byte) (entries : Vector Int 9) (s : State) :
    LeanMoves s.leanView (takeMapWrite r entries s).state.leanView := by
  unfold takeMapWrite
  split
  · exact .refl
  · split
    · exact .refl
    · split
      · exact .single (.mapWritten _)
      · exact .refl

/-! ### The parameter store -/

/-- An enumerated write stores the value it is given, which is none of the numeric ones, or nothing. -/
theorem writeEnum_moves {α : Type} (value : Option α) (store : α → Params) (x : Int) {s : State}
    (same : ∀ a n, (store a).num n = s.params.num n) :
    LeanMoves s.leanView (writeEnum (value.map store) x s).state.leanView := by
  cases value with
  | none => exact .refl
  | some a => exact .single (.stored (store a) (same a))

theorem writeCal_moves (c : CalParam) (x : Int) (s : State) :
    LeanMoves s.leanView (writeCal c x s).state.leanView := by
  have same : ∀ n, (s.params.setCal c x).num n = s.params.num n := fun n => by cases c <;> cases n <;> rfl
  unfold writeCal
  split
  · exact .refl
  · split
    · exact .single (.stored _ same)
    · exact .refl

/-- A numeric write; that of LEAN_LIMIT clamps the commanded lean with it (05 R99). -/
theorem writeNum_move (n : NumParam) (x : Int) (s : State) : LeanMove s.leanView (writeNum n x s).state.leanView := by
  unfold writeNum
  dsimp only
  split
  case isTrue limit => exact limit ▸ .limitWritten x
  case isFalse other => exact .written n x other

theorem writeGain_leanView (g : Gain) (x : Int) (s : State) : (writeGain g x s).1.leanView = s.leanView := by
  unfold writeGain
  dsimp only
  split <;> rfl

/-- A parameter write, by the parameter's class. -/
theorem takeSetParam_moves (id : Byte) (x : Int) (s : State) :
    LeanMoves s.leanView (takeSetParam id x s).state.leanView := by
  unfold takeSetParam
  split
  case h_1 => exact .refl
  case h_2 p _ =>
    cases p
    case num n _ => exact .single (writeNum_move n x s)
    case cal c _ => exact writeCal_moves c x s
    case gain g _ => exact (writeGain_leanView g x s).symm ▸ .refl
    all_goals exact writeEnum_moves _ _ x fun _ n => by cases n <;> rfl

/-! ### The whole -/

/-- The event of each block moves the view by a chain of moves, or leaves it alone. -/
theorem keeps_leanMoves (v : LeanView) : Keeps fun s => LeanMoves v s.leanView := by
  have frame : ∀ {s t : State}, LeanMoves v s.leanView →
      t.params = s.params ∧ t.wheel = s.wheel ∧ t.est = s.est ∧ t.target = s.target → LeanMoves v t.leanView :=
    fun hs ⟨params, wheel, est, target⟩ => State.leanView_eq params wheel est target ▸ hs
  exact
    { flight := fun _ _ hs _ _ => hs
      cold := fun _ _ _ => .single .coldReset
      warm := fun s hs => hs.tail (warmReset_leanMove s)
      tick := fun _ _ hs h => frame hs (by simp [execTimestampTick_frame h])
      period := fun _ _ hs h => frame hs (by simp [execAcquisitionPeriodStart_frame h])
      conversion := fun _ _ _ _ hs h => frame hs (by simp [execConversionComplete_frame h])
      estimator := fun n s hs => hs.tail (takeSnapshotAtEstimator_move n s)
      clamp := fun _ _ hs => frame hs (by simp)
      tilt := fun _ _ hs => frame hs (by simp)
      steer := fun _ _ hs => frame hs (by simp)
      arbiter := fun _ _ hs => frame hs (by simp)
      estimate := fun _ _ hs => frame hs (by simp)
      classChange := fun _ _ hs => frame hs (by simp)
      pullIn := fun _ _ hs h => frame hs (by simp [execPullInEnd_frame h])
      lockTimer := fun _ _ hs h => frame hs (by simp [execLockTimerExpiry_frame h])
      lockExpiry := fun _ _ hs => frame hs (by simp)
      captureExpiry := fun _ _ hs => frame hs (by simp)
      notification := fun _ _ hs => frame hs (by simp)
      set := fun phi _ hs => hs.tail (.followed phi)
      apply := fun _ hs => hs
      decision := fun d s hs => hs.tail (takeDecision_move d s)
      leanCommand := fun _ _ hs => hs
      demands := fun _ _ _ hs _ => frame hs (by simp)
      grants := fun _ _ _ hs _ => hs
      pulse := fun _ _ _ hs h => hs.tail (exec_wheelPulse_move h)
      evaluation := fun _ _ _ hs h => hs.trans (exec_evaluation_moves h)
      character := fun c s hs =>
        takeCharacter_ind (fun s => LeanMoves v s.leanView) (fun _ _ hs => hs)
          (fun s id hs => (increment_leanView s id).symm ▸ hs) (fun _ _ hs => hs)
          (fun s hs => hs.tail (warmReset_leanMove s)) c s hs
      gap := fun _ _ _ hs h => frame hs (by simp [execGapTimerExpiry_frame h])
      turnaround := fun _ _ _ hs h => frame hs (by simp [execTurnaroundExpiry_frame h])
      reply := fun s f st p hs => (putReply_leanView s f st p).symm ▸ hs
      setParam := fun i x s hs => hs.trans (takeSetParam_moves i x s)
      mapWrite := fun r entries s hs => hs.trans (takeMapWrite_moves r entries s)
      arm := fun _ hs => frame hs (by simp)
      disarm := fun _ hs => frame hs (by simp)
      release := fun _ hs => frame hs (by simp)
      lock := fun _ hs => frame hs (by simp)
      restart := fun f s hs =>
        takeRestart_ind (fun s => LeanMoves v s.leanView) (fun _ _ hs => hs)
          (fun s f st p hs => (putReply_leanView s f st p).symm ▸ hs)
          (fun s hs => hs.tail (warmReset_leanMove s)) f s hs
      faultClear := fun _ _ hs => frame hs (by simp)
      faultConfig := fun _ _ _ _ _ hs => frame hs (by simp)
      counterRead := fun _ _ _ _ hs => frame hs (by simp)
      eventRead := fun _ _ hs => frame hs (by simp)
      sampleRead := fun _ _ _ hs => frame hs (by simp)
      acqConfig := fun _ _ _ hs => frame hs (by simp)
      acqSingle := fun _ hs => frame hs (by simp) }

/-- Every step is a chain of moves. -/
theorem step_leanMoves {s t : State} (h : step s = .next t) : LeanMoves s.leanView t.leanView :=
  (keeps_leanMoves s.leanView).step (fun _ _ hs => hs) .refl h

/-- What each move keeps while the parameters are in range, every chain of moves keeps. -/
theorem LeanMoves.keeps {v w : LeanView} (moves : LeanMoves v w) (range : v.params.InRange) {P : LeanView → Prop}
    (each : ∀ {v w}, LeanMove v w → v.params.InRange → P v → P w) (hv : P v) : w.params.InRange ∧ P w := by
  induction moves with
  | refl => exact ⟨range, hv⟩
  | tail _ last ih => exact ⟨last.inRange ih.1, each last ih.1 ih.2⟩

/-- Settles O58: every step is a chain of moves of the lean computation, and each move keeps the three laws. -/
theorem leanLawsAreKept : Obligations.LeanLawsAreKept := by
  intro s t h lawful
  have moves : LeanMoves s.leanView t.leanView := step_leanMoves h
  have range : s.leanView.params.InRange := lawful.inRange
  rw [s.commandLaw_iff, t.commandLaw_iff, s.wheelLaw_iff, t.wheelLaw_iff, s.ringLaw_iff, t.ringLaw_iff]
  exact ⟨fun law => (moves.keeps range (P := fun v => Within v.params.leanLimit v.target.phiCmd)
      LeanMove.commandLaw law).2,
    fun law => (moves.keeps range (P := fun v => v.wheel.Lawful) LeanMove.wheelLaw law).2,
    fun law => (moves.keeps range (P := fun v => v.est.Lawful) (fun m _ => m.ringLaw) law).2⟩

end Sys2Proof.Machine
end


section
/-! PROOFS. The commanded lean: the target generator's events as the whole state that each leaves, an increment past
what the generator writes; and from that the set command and the decisions of the three kinds. -/

namespace Sys2Proof.Machine

/-! ## Increments past the target generator's own updates -/

/-- An increment does not read the target generator. -/
theorem increment_setTarget (s : State) (g : TargetGen) (id : CounterId) :
    increment (s.setTarget g) id = (increment s id).setTarget g := by
  refine (increment_of_sameReports (s := s.setTarget g) (t := s) ⟨rfl, rfl, rfl, rfl, rfl⟩ id).trans ?_
  apply State.ext_blocks <;> simp

/-- An increment does not read what is under way. -/
theorem increment_setFlight (s : State) (x : Flight) (id : CounterId) :
    increment (s.setFlight x) id = (increment s id).setFlight x := by
  obtain ⟨stats, notices⟩ := increment_congr (s := s.setFlight x) (t := s) id rfl rfl rfl
  apply State.ext_blocks <;> simp [stats, notices]

/-- The state with a counter incremented where a condition holds. -/
def State.countedIf (s : State) (p : Prop) [Decidable p] (id : CounterId) : State := if p then increment s id else s

section
variable (s : State) (p : Prop) [Decidable p] (id : CounterId)

@[simp] theorem State.countedIf_target : (s.countedIf p id).target = s.target := by
  unfold State.countedIf
  split
  · simp
  · rfl

theorem State.countedIf_setTarget (g : TargetGen) :
    (s.setTarget g).countedIf p id = (s.countedIf p id).setTarget g := by
  unfold State.countedIf
  split
  · exact increment_setTarget s g id
  · rfl

theorem State.countedIf_setFlight (x : Flight) :
    (s.setFlight x).countedIf p id = (s.countedIf p id).setFlight x := by
  unfold State.countedIf
  split
  · exact increment_setFlight s x id
  · rfl

end

/-! ## SET_COMMAND -/

/-- Settles O22: the set command taken out of its list, and the lean it carries followed. -/
theorem setCommandSetsTheLean : Obligations.SetCommandSetsTheLean := by
  intro s phi rest front
  simp only [exec, execSetCommand, front]
  rfl

/-! ## Each kind of a decision as the whole state that it leaves -/

/-- A step toward a target is the generator moved, on the state with the step counted when it is limited (05 R96). -/
theorem moveToward_eq (s : State) (target rate : Int) :
    moveToward s target rate =
      (s.countedIf (stepLimited target rate s.target.phiCmd) .rateLimited).setTarget (s.target.moved target rate) :=
  State.countedIf_setTarget s _ .rateLimited (s.target.moved target rate)

/-- A leaning decision: the target of the map clamped to the limit, counted when it lay outside, and a step toward it
(05 R93, R96). -/
theorem lean_eq (s : State) (e : Estimate) :
    let raw := mapTarget s.target.map s.wheel.v e.bar
    let target := clampMag s.params.leanLimit raw
    lean s e =
      ((s.countedIf (s.params.leanLimit < mag raw) .targetClamps).countedIf
        (stepLimited target s.params.rLean s.target.phiCmd) .rateLimited).setTarget
        (s.target.moved target s.params.rLean) := by
  intro raw target
  have step := moveToward_eq (s.countedIf (s.params.leanLimit < mag raw) .targetClamps) target s.params.rLean
  rwa [State.countedIf_target] at step

/-- A following decision follows a measured lean that is VALID or SINGLE, and keeps the commanded lean else (05 R97). -/
theorem follow_eq (s : State) (e : Estimate) :
    follow s e =
      s.setTarget (s.target.follows
        (if e.meas = .valid ∨ e.meas = .single then clampMag s.params.leanLimit e.phi else s.target.phiCmd)) := by
  unfold follow
  split
  all_goals
    rename_i meas
    simp [meas, TargetGen.follows]

/-- The decisions of the holding kind (05 R95). -/
theorem kindOf_of_holds {d : Decision} (h : d.holds = true) : kindOf d.regime d.hold = .holding := by
  unfold Decision.holds at h
  unfold kindOf
  split
  all_goals
    rename_i regime
    simp_all

/-- The decisions of the following kind (05 R95). -/
theorem kindOf_of_follows {d : Decision} (h : d.follows = true) : kindOf d.regime d.hold = .following := by
  unfold Decision.follows at h
  unfold kindOf
  split
  all_goals
    rename_i regime
    simp_all

/-! ## REGIME_DECISION -/

/-- A decision taken out of its list: once the generator is formed for it, its commanded lean is sent with it. -/
theorem exec_regimeDecision {s : State} {d : Decision} {rest : List TargetMsg}
    (front : s.flight.targetMsgs = .decision d :: rest) {t : State} {g : TargetGen}
    (formed : formTarget (s.setFlight { s.flight with targetMsgs := rest }) d =
      (t.setFlight { s.flight with targetMsgs := rest }).setTarget g) :
    exec .regimeDecision s = .next { t with
      target := g
      flight := { s.flight with
        targetMsgs := rest, leanCommands := s.flight.leanCommands ++ [{ phiCmd := g.phiCmd, decision := d }] } } := by
  simp only [exec, execRegimeDecision, front, takeDecision, formed]
  rfl

/-- Settles O24: the cell and the interpolations are the map's own; the two counts are made on the state before. -/
theorem leaningDecision : Obligations.LeaningDecision := by
  intro s d rest front active v' i f b j g m top bot raw target far cmd s1 s2
  have formed : formTarget (s.setFlight { s.flight with targetMsgs := rest }) d =
      (s2.setFlight { s.flight with targetMsgs := rest }).setTarget (s.target.moved target s.params.rLean) := by
    simp only [formTarget, active, kindOf, lean_eq]
    rw [State.countedIf_setFlight, State.countedIf_setFlight]
    rfl
  exact exec_regimeDecision front formed

/-- Settles O25: a holding decision moves toward upright, a following one follows. -/
theorem holdingAndFollowingDecisions : Obligations.HoldingAndFollowingDecisions := by
  intro s d rest front
  constructor
  · intro holds far cmd
    refine exec_regimeDecision front (t := s.countedIf far .rateLimited) (g := s.target.moved 0 s.params.rCapture) ?_
    simp only [formTarget, kindOf_of_holds holds, moveToward_eq, State.countedIf_setFlight]
    rfl
  · intro follows cmd
    refine exec_regimeDecision front (t := s) (g := s.target.follows cmd) ?_
    simp only [formTarget, kindOf_of_follows follows, follow_eq]
    rfl

end Sys2Proof.Machine
end


section
/-! PROOFS. The lean map: its entries after a row has been replaced; and from that MAP_WRITE, by the tests of the target
generator in order. -/

namespace Sys2Proof.Machine

/-! ## The map -/

/-- Replacing a row replaces its entries and no others (05 R86). -/
theorem mapEntry_setRow (m : LeanMap) {r : Nat} (inMap : r < 8) (row : Vector Int 9) (i j : Nat) :
    mapEntry (setRow m r row) i j = if i = r then row[j]?.getD 0 else mapEntry m i j := by
  unfold mapEntry setRow
  rw [dif_pos inMap, Vector.getElem?_set]
  by_cases here : i = r
  · simp [here]
  · simp [here, Ne.symm here]

/-- The range test of a row, entry by entry (05 R85). -/
theorem all_entryAdmitted_iff (entries : List Int) :
    entries.all entryAdmitted = true ↔ ∀ x ∈ entries, -4500 ≤ x ∧ x ≤ 4500 := by
  simp [entryAdmitted]

/-! ## MAP_WRITE at the target generator -/

section
variable {row : Byte} {s : State}

theorem takeMapWrite_noRow (beyond : 7 < row.toNat) (entries : Vector Int 9) :
    takeMapWrite row entries s = refuse s .refusedRange :=
  if_pos beyond

theorem takeMapWrite_armed (known : row.toNat ≤ 7) (off : s.ctl.regime ≠ .off) (locked : s.ctl.regime ≠ .locked)
    (entries : Vector Int 9) : takeMapWrite row entries s = refuse s .refusedState := by
  rw [takeMapWrite, if_neg (Nat.not_lt.mpr known), if_pos ⟨off, locked⟩]

/-- Past the first two tests, the range of the entries decides. -/
theorem takeMapWrite_parked (known : row.toNat ≤ 7) (parked : s.ctl.regime = .off ∨ s.ctl.regime = .locked)
    (entries : Vector Int 9) :
    takeMapWrite row entries s =
      if ∀ x ∈ entries.toList, -4500 ≤ x ∧ x ≤ 4500 then
        { state := s.setTarget { s.target with map := setRow s.target.map row.toNat entries }
          status := .ok, payload := [] }
      else refuse s .refusedRange := by
  rw [takeMapWrite, if_neg (Nat.not_lt.mpr known), if_neg fun armed => parked.elim armed.1 armed.2]
  exact choice_congr (all_entryAdmitted_iff entries.toList) rfl rfl

end

/-! ## MAP_WRITE -/

section
variable {s : State} {f : Frame} {rest : List Frame} {payload : List Byte} {row : Byte} {entries : Vector Int 9}

theorem exec_mapWrite (h : s.asked f rest 0x05 payload) (parsed : parseRow payload = some (row, entries))
    (addressed : f.broadcast = false) :
    exec .mapWrite s = .next ((takeMapWrite row entries (s.dropped rest)).replyTo f) :=
  congrArg _ (takeRequest_served h addressed (row := .mapWrite) (fun f kind => by simp [Frame.row, kind]) parsed
    fun a s => takeMapWrite a.1 a.2 s)

/-- By broadcast the request is dropped (11 R171). -/
theorem exec_mapWrite_broadcast (h : s.asked f rest 0x05 payload) (broadcast : f.broadcast = true) :
    exec .mapWrite s = .next (s.dropped rest) := by
  obtain ⟨front, kind, -⟩ := h
  have own : f.row = .mapWrite := by simp [Frame.row, kind]
  refine congrArg _ ((takeRequest_own _ _ front own).trans (serve_dropped _ _ _ _ broadcast ?_ ?_))
  · simp [kind]
  · simp [kind]

end

/-- A row accepted, with the map that it leaves. -/
theorem accepted_setTarget_replyTo (s : State) (g : TargetGen) (f : Frame) (rest : List Frame) :
    Answer.replyTo { state := (s.dropped rest).setTarget g, status := .ok, payload := [] } f =
      { s.replied f rest .ok [] with target := g } :=
  putReply_eq _ f .ok []

/-- Settles O38: by broadcast, and the three tests in order. -/
theorem mapWriteReplacesARow : Obligations.MapWriteReplacesARow := by
  intro s f rest payload row entries asked parsed
  refine ⟨exec_mapWrite_broadcast asked, fun addressed beyond => ?_, fun addressed known off locked => ?_,
    fun addressed known parked => ?_⟩
  all_goals rw [exec_mapWrite asked parsed addressed]
  · rw [takeMapWrite_noRow beyond, refusedRange_replyTo]
  · rw [takeMapWrite_armed (s := s.dropped rest) known off locked, refusedState_replyTo]
  · rw [takeMapWrite_parked (s := s.dropped rest) known parked]
    refine ⟨fun ⟨x, entry, beyond⟩ => ?_, fun admitted => ?_⟩
    · have refused : ¬∀ x ∈ entries.toList, -4500 ≤ x ∧ x ≤ 4500 := fun admitted => by
        have := admitted x entry
        omega
      rw [if_neg refused, refusedRange_replyTo]
    · rw [if_pos admitted, accepted_setTarget_replyTo]
      exact ⟨_, rfl, fun i j _ => mapEntry_setRow s.target.map (Nat.lt_succ_of_le known) entries i j, rfl⟩

end Sys2Proof.Machine
end


section
/-! PROOFS. The requests that read: how values travel, what each owner reads, and from that the replies of IDENT,
STATUS, GET_PARAM, MAP_READ and FAULT_READ. -/

namespace Sys2Proof.Machine

/-! ## Layouts (11 R176) -/

theorem two_pow_pos (n : Nat) : (0 : Int) < 2 ^ n := Int.pow_pos (by decide)

/-- Dividing what is left of a value modulo a product by its first factor leaves the quotient modulo the second. -/
theorem emod_mul_ediv {a : Int} (pos : 0 < a) (x b : Int) : x % (a * b) / a = x / a % b := by
  rw [Int.emod_def, Int.mul_assoc, Int.sub_mul_ediv_left _ _ (Int.ne_of_gt pos), Int.emod_def,
    Int.ediv_ediv_of_nonneg (Int.le_of_lt pos)]

/-- Bits taken out of a word are those of the value divided by the weight of the lowest of them. -/
theorem extractLsb'_ofInt {w start len : Nat} (fits : start + len ≤ w) (x : Int) :
    (BitVec.ofInt w x).extractLsb' start len = BitVec.ofInt len (x / 2 ^ start) := by
  obtain ⟨k, rfl⟩ := Nat.exists_eq_add_of_le fits
  have low : x % 2 ^ (start + len + k) / 2 ^ start = x / 2 ^ start % (2 ^ len * 2 ^ k) := by
    rw [Int.pow_add, Int.pow_add, Int.mul_assoc, emod_mul_ediv (two_pow_pos start)]
  have bits : x % 2 ^ (start + len + k) / 2 ^ start % 2 ^ len = x / 2 ^ start % 2 ^ len := by
    rw [low, Int.emod_emod_of_dvd _ (Int.dvd_mul_right _ _)]
  apply BitVec.eq_of_toNat_eq
  rw [BitVec.extractLsb'_toNat, BitVec.toNat_ofInt, BitVec.toNat_ofInt, Nat.shiftRight_eq_div_pow, ← Int.ofNat_inj]
  simp only [Int.natCast_emod, Int.natCast_ediv, Int.natCast_pow, Int.cast_ofNat_Int,
    Int.toNat_of_nonneg (Int.emod_nonneg _ (Int.ne_of_gt (two_pow_pos _)))]
  exact bits

theorem be16_eq (x : Int) : be16 x = be8 (x / 256) ++ be8 x := by
  simp only [be16, be8, List.cons_append, List.nil_append]
  rw [extractLsb'_ofInt (by decide), extractLsb'_ofInt (by decide), Int.pow_zero, Int.ediv_one]
  rfl

theorem be32_eq (x : Int) : be32 x = be16 (x / 65536) ++ be16 x := by
  have top : x / 65536 / 256 = x / 16777216 := Int.ediv_ediv_of_nonneg (by decide)
  rw [be16_eq, be16_eq, top]
  simp only [be32, be8, List.cons_append, List.nil_append]
  rw [extractLsb'_ofInt (by decide), extractLsb'_ofInt (by decide), extractLsb'_ofInt (by decide),
    extractLsb'_ofInt (by decide), Int.pow_zero, Int.ediv_one]
  rfl

/-- A flag alone in its bitmap. -/
theorem bitmap_singleton (b : Bool) : bitmap [b] = bit b := Int.add_zero (bit b)

/-- The codes and layouts of the bytes. -/
theorem layoutCodes : LayoutCodes :=
  ⟨fun x => ⟨rfl, be16_eq x, be32_eq x⟩, fun _ _ => ⟨rfl, rfl⟩, rfl, rfl, rfl, rfl, rfl, rfl, rfl, rfl, rfl,
    fun _ => ⟨rfl, rfl, rfl⟩, rfl, rfl, rfl, rfl, rfl, rfl, rfl, rfl, rfl, rfl⟩

/-! ## How the rows answer -/

/-- A read that is accepted: the reply alone. -/
theorem accepted_read_replyTo (s : State) (f : Frame) (rest : List Frame) (payload : List Byte) :
    Answer.replyTo { state := s.dropped rest, status := .ok, payload := payload } f = s.replied f rest .ok payload :=
  putReply_eq _ f .ok payload

section
variable {s : State} {f : Frame} {rest : List Frame}

theorem exec_ident (h : s.asked f rest 0x01 []) (addressed : f.broadcast = false) :
    exec .ident s = .next (s.replied f rest .ok (identBytes s.line)) :=
  congrArg _ ((takeRequest_served h addressed (row := .ident) (parse := parse0)
    (fun f kind => by simp [Frame.row, kind]) rfl
    fun _ s => { state := s, status := .ok, payload := identBytes s.line }).trans
    (accepted_read_replyTo s f rest (identBytes s.line)))

theorem exec_status (h : s.asked f rest 0x02 []) (addressed : f.broadcast = false) :
    exec .status s = .next (s.replied f rest .ok (statusBytes s)) :=
  congrArg _ ((takeRequest_served h addressed (row := .status) (parse := parse0)
    (fun f kind => by simp [Frame.row, kind]) rfl
    fun _ s => { state := s, status := .ok, payload := statusBytes s }).trans
    (accepted_read_replyTo s f rest (statusBytes s)))

theorem exec_getParam {id : Byte} (h : s.asked f rest 0x04 [id]) (addressed : f.broadcast = false) :
    exec .getParam s = .next ((takeGetParam id (s.dropped rest)).replyTo f) :=
  congrArg _ (takeRequest_served h addressed (row := .getParam) (parse := parse1)
    (fun f kind => by simp [Frame.row, kind]) rfl takeGetParam)

theorem exec_mapRead {row : Byte} (h : s.asked f rest 0x06 [row]) (addressed : f.broadcast = false) :
    exec .mapRead s = .next ((takeMapRead row (s.dropped rest)).replyTo f) :=
  congrArg _ (takeRequest_served h addressed (row := .mapRead) (parse := parse1)
    (fun f kind => by simp [Frame.row, kind]) rfl takeMapRead)

theorem exec_faultRead {selector : Byte} (h : s.asked f rest 0x08 [selector]) (addressed : f.broadcast = false) :
    exec .faultRead s = .next ((takeFaultRead selector (s.dropped rest)).replyTo f) :=
  congrArg _ (takeRequest_served h addressed (row := .faultRead) (parse := parse1)
    (fun f kind => by simp [Frame.row, kind]) rfl takeFaultRead)

end

/-! ## GET_PARAM -/

/-- A parameter that is no gain has its value of the store, and none pending (11 R175). -/
theorem paramOfByte_byId (s : State) :
    ∀ p ∈ s.params.byId, ∃ q, ParamId.ofByte p.1 = some q ∧ paramValue s q = p.2 ∧ paramPending s q = none := by
  simp only [Params.byId, List.forall_mem_cons, List.not_mem_nil, false_implies, implies_true, and_true]
  and_intros
  all_goals exact ⟨_, rfl, rfl, rfl⟩

/-- The seven gains by identifier. -/
theorem paramOfByte_gain : ∀ p ∈ gainIds, ParamId.ofByte p.1 = some (.gain p.2) := by decide

/-- The identifiers of the parameters but the gains, which no value depends on. -/
def paramIds : List Byte := Params.start.byId.map Prod.fst

theorem Params.byId_ids (p : Params) : p.byId.map Prod.fst = paramIds := rfl

/-- Every identifier of a parameter is in one of the two lists. -/
theorem mem_ids_of_paramOfByte {id : Byte} {q : ParamId} (known : ParamId.ofByte id = some q) :
    id ∈ paramIds ∨ id ∈ gainIds.map Prod.fst := by
  have same : id = BitVec.ofNat 8 id.toNat := by simp
  unfold ParamId.ofByte at known
  split at known
  case h_39 => cases known
  all_goals
    rename_i code
    rw [same, code]
    decide

theorem takeGetParam_known {id : Byte} {p : ParamId} (known : ParamId.ofByte id = some p) (s : State) :
    takeGetParam id s =
      { state := s, status := .ok
        payload := id :: be32 (paramValue s p) ++ be8 (bit (paramPending s p).isSome) ++
          be32 ((paramPending s p).getD 0) } := by
  simp only [takeGetParam, known]

theorem takeGetParam_unknown {id : Byte} (unknown : ParamId.ofByte id = none) (s : State) :
    takeGetParam id s = refuse s .refusedRange := by
  simp only [takeGetParam, unknown]

/-! ## MAP_READ -/

theorem takeMapRead_row {row : Byte} (known : row.toNat < 8) (s : State) :
    takeMapRead row s =
      { state := s, status := .ok, payload := row :: (s.target.map[row.toNat]'known).toList.flatMap be16 } := by
  simp only [takeMapRead, Vector.getElem?_eq_getElem known]

theorem takeMapRead_noRow {row : Byte} (beyond : 7 < row.toNat) (s : State) :
    takeMapRead row s = refuse s .refusedRange := by
  simp only [takeMapRead, Vector.getElem?_eq_none beyond]

/-! ## FAULT_READ -/

theorem FaultKind.byId_id (k : FaultKind) : FaultKind.byId k.id.toNat = some k := by cases k <;> rfl

theorem FaultKind.byId_beyond {n : Nat} (beyond : 13 < n) : FaultKind.byId n = none :=
  List.getElem?_eq_none beyond

theorem FaultKind.id_le (k : FaultKind) : k.id.toNat ≤ 13 := by cases k <;> decide

/-- The byte that selects a kind is its id as it travels. -/
theorem FaultKind.be8_id {k : FaultKind} {selector : Byte} (selected : selector.toNat = k.id.toNat) :
    be8 k.id = [selector] := by
  have same : BitVec.ofInt 8 k.id = selector := BitVec.eq_of_toNat_eq (by rw [selected]; cases k <;> rfl)
  rw [be8, same]

theorem FaultKind.fixed_eq (k : FaultKind) : k.fixed = decide (k ∈ fixedKinds) := by cases k <;> rfl

/-- A status is SET with a severity when that is the severity it recorded (08 R141). -/
theorem FaultRecord.setAs_eq (severity : Severity) (r : FaultRecord) :
    r.setAs severity = decide (r.status.map FaultSet.severity = some severity) := by
  unfold FaultRecord.setAs
  cases r.status <;> simp

/-- The bytes of a kind record: while the status is clear, 0 stands for what it would record (08 R149). -/
theorem recordBytes_eq (k : FaultKind) (r : FaultRecord) :
    let present := be8 (bit r.status.isSome)
    recordBytes k r =
      be8 k.id ++ present ++ present ++ be8 ((r.status.map fun x => x.severity.code).getD 0) ++ present ++
        be32 ((r.status.map fun x => (x.time.toNat : Int)).getD 0) ++ be8 r.severity.code ++ be8 (bit r.detectMask) ++
        be8 (bit r.reportMask) ++ be8 (bit k.fixed) := by
  unfold recordBytes
  cases r.status <;> rfl

/-- The bytes of the overview: while the pointer is invalid, 0 stands for what it would hold (08 R149). -/
theorem overviewBytes_eq (u : FaultUnit) :
    let severity := fun k : FaultKind => (u.table.get k).status.map FaultSet.severity
    overviewBytes u =
      be8 (bitmap [u.majorPresent, u.minorPresent]) ++
        be16 (bitmap (kindsById.map fun k => (severity k).isSome)) ++
        be16 (bitmap (kindsById.map fun k => decide (severity k = some .major))) ++
        be8 (bit u.pointer.isSome) ++ be8 ((u.pointer.map fun p => p.kind.id).getD 0) ++
        be32 ((u.pointer.map fun p => (p.time.toNat : Int)).getD 0) := by
  unfold overviewBytes
  simp only [kindBitmap, FaultRecord.setAs_eq, Option.isSome_map]
  cases u.pointer <;> rfl

theorem takeFaultRead_overview (s : State) :
    takeFaultRead 255 s = { state := s, status := .ok, payload := overviewBytes s.faults } := rfl

theorem takeFaultRead_kind {selector : Byte} {k : FaultKind} (selected : selector.toNat = k.id.toNat) (s : State) :
    takeFaultRead selector s = { state := s, status := .ok, payload := recordBytes k (s.faults.table.get k) } := by
  have kind : selector.toNat ≠ 255 := by have := k.id_le; omega
  rw [takeFaultRead, if_neg kind, selected, k.byId_id]

theorem takeFaultRead_refused {selector : Byte} (beyond : 13 < selector.toNat) (noOverview : selector ≠ 255)
    (s : State) : takeFaultRead selector s = refuse s .refusedRange := by
  have noKind : selector.toNat ≠ 255 := fun h => noOverview (BitVec.eq_of_toNat_eq h)
  rw [takeFaultRead, if_neg noKind, FaultKind.byId_beyond beyond]

/-! ## The five replies -/

/-- Settles O35: the codes, then each request by what its owner reads. -/
theorem readRequestsReply : Obligations.ReadRequestsReply := by
  refine ⟨layoutCodes, fun s f rest addressed => ⟨fun asked => ?_, fun asked => ?_, fun id asked => ?_,
    fun row asked => ?_, fun selector asked => ?_⟩⟩
  · exact exec_ident asked addressed
  · refine ⟨statusBytes s, exec_status asked addressed, ?_⟩
    simp only [statusBytes, statusRegime, statusLean, statusChannel, statusTail, be8, be16, be32, bitmap_singleton,
      PerInput.map, PerInput.toList, List.cons_append, List.nil_append, List.drop_succ_cons, List.drop_zero,
      List.take_succ_cons, List.take_zero, List.length_cons, List.length_nil, and_self]
  · rw [exec_getParam asked addressed]
    refine ⟨fun noParam noGain => ?_, ?_, ?_⟩
    · rw [s.params.byId_ids] at noParam
      cases param : ParamId.ofByte id with
      | none => rw [takeGetParam_unknown param, refusedRange_replyTo]
      | some q => exact ((mem_ids_of_paramOfByte param).elim noParam noGain).elim
    · rintro p listed rfl
      obtain ⟨q, param, value, pending⟩ := paramOfByte_byId (s.dropped rest) p listed
      rw [takeGetParam_known param, accepted_read_replyTo, value, pending]
      rfl
    · rintro p listed rfl
      rw [takeGetParam_known (paramOfByte_gain p listed), accepted_read_replyTo]
      rfl
  · rw [exec_mapRead asked addressed]
    refine ⟨fun beyond => ?_, fun known => ?_⟩
    · rw [takeMapRead_noRow beyond, refusedRange_replyTo]
    · rw [takeMapRead_row known, accepted_read_replyTo]
      rfl
  · rw [exec_faultRead asked addressed]
    refine ⟨fun overview => ?_, fun k selected => ?_, fun beyond noOverview => ?_⟩
    · rw [overview, takeFaultRead_overview, accepted_read_replyTo, overviewBytes_eq]
      rfl
    · rw [takeFaultRead_kind selected, accepted_read_replyTo, recordBytes_eq, FaultKind.be8_id selected, k.fixed_eq]
      rfl
    · rw [takeFaultRead_refused beyond noOverview, refusedRange_replyTo]

end Sys2Proof.Machine
end


section
/-! PROOFS. The gains: what a gain write and an apply command leave of each gain, and that both keep the gains in their
ranges and the blend speeds apart; and from that APPLY_COMMAND and SET_PARAM of a gain. -/

namespace Sys2Proof.Machine

/-! ## Gain writes -/

/-- The unit with a gain applied and its pending value dropped (06 R113). -/
def ControlLaw.store (l : ControlLaw) (g : Gain) (x : Int) : ControlLaw :=
  { l with applied := l.applied.set g x, held := l.held.set g none }

/-- The unit with a gain pending (06 R113). -/
def ControlLaw.hold (l : ControlLaw) (g : Gain) (x : Int) : ControlLaw := { l with held := l.held.set g (some x) }

/-- In OFF and LOCKED a gain is applied at once. -/
theorem writeGain_parked {s : State} (h : s.ctl.regime = .off ∨ s.ctl.regime = .locked) (g : Gain) (x : Int) :
    writeGain g x s =
      (s.setLaw (s.law.store g (s.law.clampGain g x)), if s.law.clampGain g x = x then .ok else .clamped) :=
  if_pos h

/-- In every other regime a gain becomes pending. -/
theorem writeGain_armed {s : State} (off : s.ctl.regime ≠ .off) (locked : s.ctl.regime ≠ .locked) (g : Gain)
    (x : Int) : writeGain g x s = (s.setLaw (s.law.hold g (s.law.clampGain g x)), .pending) :=
  if_neg fun parked => parked.elim off locked

section
variable (l : ControlLaw) (g h : Gain) (x : Int)

/-- Either write makes the value the effective next one of its gain, and of no other. -/
theorem ControlLaw.nextValue_store : (l.store g x).nextValue h = if h = g then x else l.nextValue h := by
  simp only [ControlLaw.nextValue, ControlLaw.store, PerGain.get_set]
  split <;> rfl

theorem ControlLaw.nextValue_hold : (l.hold g x).nextValue h = if h = g then x else l.nextValue h := by
  simp only [ControlLaw.nextValue, ControlLaw.hold, PerGain.get_set]
  split <;> rfl

/-- Every gain's effective next value is applied (06 R115). -/
theorem ControlLaw.applyHeld_applied : l.applyHeld.applied.get g = l.nextValue g := by cases g <;> rfl

/-- No pending value is left (06 R115). -/
theorem ControlLaw.applyHeld_held : l.applyHeld.held.get g = none := by cases g <;> rfl

theorem ControlLaw.nextValue_applyHeld : l.applyHeld.nextValue g = l.nextValue g := by cases g <;> rfl

end

/-! ## Gains in range -/

/-- The gain law, of the unit alone (06 R114). -/
structure ControlLaw.InRange (l : ControlLaw) : Prop where
  applied : ∀ g : Gain, g.range.1 ≤ l.applied.get g ∧ l.applied.get g ≤ g.range.2
  held : ∀ (g : Gain) (x : Int), l.held.get g = some x → g.range.1 ≤ x ∧ x ≤ g.range.2
  apart : l.nextValue .vbLo + 100 ≤ l.nextValue .vbHi

theorem State.gainLaw_iff (s : State) : s.GainLaw ↔ s.law.InRange :=
  ⟨fun ⟨applied, held, apart⟩ => ⟨applied, held, apart⟩, fun ⟨applied, held, apart⟩ => ⟨applied, held, apart⟩⟩

/-- A unit with the same gains is as much in range. -/
theorem ControlLaw.InRange.of_gains_eq {l m : ControlLaw} (h : l.InRange) (applied : m.applied = l.applied)
    (held : m.held = l.held) : m.InRange where
  applied := applied ▸ h.applied
  held := held ▸ h.held
  apart := by
    unfold ControlLaw.nextValue
    rw [applied, held]
    exact h.apart

theorem ControlLaw.start_inRange : (ControlLaw.start gainDefaults (.all none)).InRange :=
  ⟨fun g => by cases g <;> decide, fun g => by cases g <;> exact nofun, by decide⟩

theorem ControlLaw.InRange.nextValue_mem {l : ControlLaw} (h : l.InRange) (g : Gain) :
    g.range.1 ≤ l.nextValue g ∧ l.nextValue g ≤ g.range.2 := by
  unfold ControlLaw.nextValue
  cases pending : l.held.get g with
  | none => exact h.applied g
  | some x => exact h.held g x pending

theorem Gain.range_ordered (g : Gain) : g.range.1 ≤ g.range.2 := by cases g <;> decide

/-- A gain value brought to its range and cross-clamped is in range: the other blend speed's range leaves room for the
margin. -/
theorem ControlLaw.InRange.clampGain_mem {l : ControlLaw} (h : l.InRange) (g : Gain) (x : Int) :
    g.range.1 ≤ l.clampGain g x ∧ l.clampGain g x ≤ g.range.2 := by
  obtain ⟨low, high⟩ := clampTo_mem g.range_ordered x
  cases g
  case vbLo =>
    have room : 0 ≤ l.nextValue .vbHi - 100 := Int.sub_nonneg_of_le (h.nextValue_mem .vbHi).1
    exact ⟨Int.le_min.mpr ⟨low, room⟩, Int.le_trans (Int.min_le_left _ _) high⟩
  case vbHi =>
    have room : l.nextValue .vbLo + 100 ≤ 1400 :=
      Int.le_trans (Int.add_le_add_right (h.nextValue_mem .vbLo).2 100) (by decide)
    exact ⟨Int.le_trans low (Int.le_max_left _ _), Int.max_le.mpr ⟨high, room⟩⟩
  all_goals exact ⟨low, high⟩

/-- Once a clamped value is the effective next one of its gain, the blend speeds are apart. -/
theorem ControlLaw.InRange.apart_of_write {l m : ControlLaw} (h : l.InRange) {g : Gain} {x : Int}
    (next : ∀ k, m.nextValue k = if k = g then l.clampGain g x else l.nextValue k) :
    m.nextValue .vbLo + 100 ≤ m.nextValue .vbHi := by
  rw [next, next]
  cases g
  case vbLo => exact Int.add_le_of_le_sub_right (Int.min_le_right _ _)
  case vbHi => exact Int.le_max_right _ _
  all_goals exact h.apart

/-- A gain write keeps the gains in range, applied at once. -/
theorem ControlLaw.InRange.store {l : ControlLaw} (h : l.InRange) (g : Gain) (x : Int) :
    (l.store g (l.clampGain g x)).InRange where
  applied k := by
    simp only [ControlLaw.store, PerGain.get_set]
    split
    case isTrue written => exact written ▸ h.clampGain_mem g x
    case isFalse => exact h.applied k
  held k y := by
    simp only [ControlLaw.store, PerGain.get_set]
    split
    · exact nofun
    · exact h.held k y
  apart := h.apart_of_write fun k => l.nextValue_store g k _

/-- A gain write keeps the gains in range, made pending. -/
theorem ControlLaw.InRange.hold {l : ControlLaw} (h : l.InRange) (g : Gain) (x : Int) :
    (l.hold g (l.clampGain g x)).InRange where
  applied := h.applied
  held k y := by
    simp only [ControlLaw.hold, PerGain.get_set]
    split
    case isTrue written =>
      rintro ⟨⟩
      exact written ▸ h.clampGain_mem g x
    case isFalse => exact h.held k y
  apart := h.apart_of_write fun k => l.nextValue_hold g k _

theorem writeGain_inRange (g : Gain) (x : Int) {s : State} (h : s.law.InRange) :
    (writeGain g x s).1.law.InRange := by
  by_cases parked : s.ctl.regime = .off ∨ s.ctl.regime = .locked
  · rw [writeGain_parked parked]
    exact h.store g x
  · rw [writeGain_armed (mt .inl parked) (mt .inr parked)]
    exact h.hold g x

/-- Pending values in range are in range once applied. -/
theorem ControlLaw.InRange.applyHeld {l : ControlLaw} (h : l.InRange) : l.applyHeld.InRange where
  applied g := l.applyHeld_applied g ▸ h.nextValue_mem g
  held g x pending := nomatch (l.applyHeld_held g).symm.trans pending
  apart := by
    rw [l.nextValue_applyHeld, l.nextValue_applyHeld]
    exact h.apart

/-! ## APPLY_COMMAND -/

/-- Settles O23: what is applied of each gain is its effective next value. -/
theorem applyCommandAppliesPendingGains : Obligations.ApplyCommandAppliesPendingGains := by
  intro s waiting
  refine ⟨_, if_pos waiting, fun g => (s.law.applyHeld_applied g).trans ?_, s.law.applyHeld_held, rfl⟩
  unfold ControlLaw.nextValue
  cases s.law.held.get g <;> rfl

/-! ## SET_PARAM of a gain -/

theorem takeSetParam_gain {id : Byte} {g : Gain} (known : ParamId.ofByte id = some (.gain g)) (x : Int) (s : State) :
    takeSetParam id x s =
      { state := (writeGain g x s).1, status := (writeGain g x s).2, payload := id :: be32 (s.law.clampGain g x) } := by
  simp only [takeSetParam, known]
  rfl

section
variable {s : State} {f : Frame} {rest : List Frame}

/-- SET_PARAM is taken by broadcast as well as addressed (11 R171). -/
theorem exec_setParam {id b3 b2 b1 b0 : Byte} (h : s.asked f rest 0x03 [id, b3, b2, b1, b0]) :
    exec .setParam s = .next ((takeSetParam id (int32 b3 b2 b1 b0) (s.dropped rest)).replyTo f) := by
  obtain ⟨front, kind, payload⟩ := h
  have own : f.row = .setParam := by simp [Frame.row, kind]
  have parsed : parseParam f.payload = some (id, int32 b3 b2 b1 b0) := payload ▸ rfl
  exact congrArg _ ((takeRequest_own _ _ front own).trans (serve_parsed _ _ _ _ _ (.inr (.inl kind)) parsed))

/-- A gain written, with what it leaves in the control law unit. -/
theorem accepted_setLaw_replyTo (l : ControlLaw) (st : Status) (payload : List Byte) (h : st.carriesPayload = true) :
    Answer.replyTo { state := (s.dropped rest).setLaw l, status := st, payload := payload } f =
      { s.replied f rest st payload with law := l } := by
  rw [Answer.replyTo, putReply_eq, if_pos h]
  rfl

end

/-- Settles O37: the clamps are the unit's own; the write is at once or pending by the regime. -/
theorem setParamOfAGain : Obligations.SetParamOfAGain := by
  intro s f rest id b3 b2 b1 b0 g asked known x next r y
  have clamped : s.law.clampGain g x = y := by cases g <;> rfl
  rw [exec_setParam asked, takeSetParam_gain known]
  refine ⟨fun parked => ?_, fun off locked => ?_⟩
  · rw [writeGain_parked (s := s.dropped rest) parked, accepted_setLaw_replyTo _ _ _ (by split <;> rfl)]
    exact ⟨_, rfl, fun h => clamped ▸ s.law.applied.get_set g h _, fun h => s.law.held.get_set g h none, clamped ▸ rfl⟩
  · rw [writeGain_armed (s := s.dropped rest) off locked, accepted_setLaw_replyTo _ _ _ rfl]
    exact ⟨_, rfl, fun h => clamped ▸ s.law.held.get_set g h _, clamped ▸ rfl⟩

end Sys2Proof.Machine
end


section
/-! PROOFS. The demands: the kind of a decision as the statements name it; and from that DEMAND_COMPUTATION. -/

namespace Sys2Proof.Machine

/-- The leaning decisions are those of ACTIVE (05 R95). -/
theorem kindOf_eq_leaning_iff (d : Decision) : kindOf d.regime d.hold = .leaning ↔ d.regime = .active := by
  unfold kindOf
  split
  case h_1 active => simp [active]
  case h_4 regime | h_5 regime =>
    rw [regime]
    split <;> simp
  all_goals
    rename_i regime
    simp [regime]

/-- The decisions of the following kind are those that follow, and no others (05 R95). -/
theorem kindOf_eq_following_iff (d : Decision) : kindOf d.regime d.hold = .following ↔ d.follows = true := by
  refine ⟨fun following => ?_, kindOf_of_follows⟩
  unfold kindOf at following
  unfold Decision.follows
  split at following
  case h_1 | h_2 | h_3 => cases following
  all_goals
    rename_i regime
    simp_all

/-- A commanded lean that waits for no apply command is taken (log 16). -/
theorem exec_demandComputation {s : State} {c : LeanCommand} {rest : List LeanCommand}
    (front : s.flight.leanCommands = c :: rest) (applied : c.decision.applies ≤ s.flight.appliesTaken) :
    exec .demandComputation s = .next (takeLeanCommand c (s.setFlight { s.flight with leanCommands := rest })) := by
  simp only [exec, execDemandComputation, front]
  exact if_pos applied

/-- The unit is formed for the commanded lean, and its demands are sent (06 R103). -/
theorem takeLeanCommand_eq (c : LeanCommand) (s : State) :
    takeLeanCommand c s =
      let l := s.law.next s.params s.wheel.v s.arbiter.overTemp.value c
      { s with law := l, flight := { s.flight with demands := s.flight.demands ++ [demandsOf l s.params] } } := rfl

/-- Settles O26: the unit's formulas are the statement's, once its kinds are. -/
theorem demandsOfADecision : Obligations.DemandsOfADecision := by
  intro s c rest front applied hot limT limS a e u w dT cs m dS
  have next : s.law.next s.params s.wheel.v hot c = { s.law with w := w, dT := dT, dS := dS, foldback := hot } := by
    simp only [ControlLaw.next, kindOf_eq_leaning_iff, kindOf_eq_following_iff]
    rfl
  rw [exec_demandComputation front applied, takeLeanCommand_eq]
  simp only [State.setFlight]
  rw [next]
  rfl

end Sys2Proof.Machine
end


section
/-! PROOFS. Parameter writes: that each keeps the parameter law and the gain law. -/

namespace Sys2Proof.Machine

/-! ## The parameter law -/

/-- Every calibration parameter holds a value it admits (11 R173). -/
def Params.Calibrated (p : Params) : Prop := ∀ c : CalParam, c.admits (p.cal c) = true

theorem State.paramLaw_iff (s : State) : s.ParamLaw ↔ s.params.InRange ∧ s.params.Calibrated :=
  ⟨fun h => ⟨h.inRange, h.calibration⟩,
    fun ⟨range, calibrated⟩ => ⟨range.numeric, range.speeds, range.strokes, calibrated⟩⟩

theorem Params.start_calibrated : Params.start.Calibrated := fun c => by cases c <;> decide

/-- A store with the same calibration values is as much calibrated. -/
theorem Params.Calibrated.of_cal_eq {p q : Params} (h : p.Calibrated) (same : ∀ c, q.cal c = p.cal c) :
    q.Calibrated := fun c => same c ▸ h c

/-- The parameter just written is read back. -/
theorem Params.cal_setCal_self (p : Params) (c : CalParam) (x : Int) : (p.setCal c x).cal c = x := by
  cases c <;> rfl

/-- Every other parameter is as before. -/
theorem Params.cal_setCal_of_ne (p : Params) {c d : CalParam} (x : Int) (h : d ≠ c) :
    (p.setCal c x).cal d = p.cal d := by
  cases c <;> cases d <;> first | rfl | exact absurd rfl h

/-- A numeric write leaves the calibration. -/
theorem Params.cal_setNum (p : Params) (n : NumParam) (x : Int) (c : CalParam) : (p.setNum n x).cal c = p.cal c := by
  cases n <;> cases c <;> rfl

/-- Writing an admitted value keeps the calibration. -/
theorem Params.Calibrated.setCal {p : Params} (h : p.Calibrated) {c : CalParam} {x : Int}
    (admitted : c.admits x = true) : (p.setCal c x).Calibrated := fun d => by
  by_cases written : d = c
  · rw [written, p.cal_setCal_self]
    exact admitted
  · rw [p.cal_setCal_of_ne x written]
    exact h d

theorem writeEnum_calibrated {α : Type} (value : Option α) (store : α → Params) (x : Int) {s : State}
    (h : s.params.Calibrated) (same : ∀ a c, (store a).cal c = s.params.cal c) :
    (writeEnum (value.map store) x s).state.params.Calibrated := by
  cases value with
  | none => exact h
  | some a => exact h.of_cal_eq (same a)

theorem writeNum_params (n : NumParam) (x : Int) (s : State) :
    (writeNum n x s).state.params = s.params.setNum n (s.params.clampNum n x) := by
  unfold writeNum
  dsimp only
  split <;> rfl

theorem writeCal_calibrated (c : CalParam) (x : Int) {s : State} (h : s.params.Calibrated) :
    (writeCal c x s).state.params.Calibrated := by
  unfold writeCal
  split
  · exact h
  · split
    case isTrue admitted => exact h.setCal admitted
    case isFalse => exact h

theorem takeSetParam_calibrated (id : Byte) (x : Int) {s : State} (h : s.params.Calibrated) :
    (takeSetParam id x s).state.params.Calibrated := by
  unfold takeSetParam
  split
  case h_1 => exact h
  case h_2 p _ =>
    cases p
    case num n _ =>
      show (writeNum n x s).state.params.Calibrated
      rw [writeNum_params]
      exact h.of_cal_eq (s.params.cal_setNum n _)
    case cal c _ => exact writeCal_calibrated c x h
    case gain g _ => simpa [writeParam] using h
    all_goals exact writeEnum_calibrated _ _ x h fun _ c => by cases c <;> rfl

/-- A parameter write keeps the numeric parameters in range, as a chain of moves. -/
theorem takeSetParam_inRange (id : Byte) (x : Int) {s : State} (h : s.params.InRange) :
    (takeSetParam id x s).state.params.InRange :=
  ((takeSetParam_moves id x s).keeps (P := fun _ => True) h (fun _ _ _ => trivial) trivial).1

theorem takeSetParam_paramLaw (id : Byte) (x : Int) {s : State} (h : s.ParamLaw) :
    (takeSetParam id x s).state.ParamLaw := by
  rw [State.paramLaw_iff] at *
  exact ⟨takeSetParam_inRange id x h.1, takeSetParam_calibrated id x h.2⟩

/-- A parameter write leaves the gains, or is a gain write. -/
theorem takeSetParam_gainLaw (id : Byte) (x : Int) {s : State} (h : s.law.InRange) :
    (takeSetParam id x s).state.law.InRange := by
  unfold takeSetParam
  split
  case h_1 => exact h
  case h_2 p _ =>
    cases p
    case gain g _ => exact writeGain_inRange g x h
    all_goals simpa [writeParam] using h

end Sys2Proof.Machine
end


section
/-! PROOFS. Limits and grants: what is within a limit, and that grants stay within the limits of their demands. -/

namespace Sys2Proof.Machine

/-! ## Limits -/

theorem Params.InRange.ilimT_nonneg {p : Params} (h : p.InRange) : 0 ≤ p.ilimT :=
  Int.le_trans (by decide) (h.numeric .ilimT).1

theorem Params.InRange.ilimS_nonneg {p : Params} (h : p.InRange) : 0 ≤ p.ilimS :=
  Int.le_trans (by decide) (h.numeric .ilimS).1

theorem Params.InRange.supplyBudget_nonneg {p : Params} (h : p.InRange) : 0 ≤ p.supplyBudget :=
  Int.le_trans (by decide) (h.numeric .supplyBudget).1

theorem within_zero {l : Int} (h : 0 ≤ l) : Within l 0 := ⟨Int.neg_nonpos_of_nonneg h, h⟩

/-- Some value within a limit shows that the limit is no less than 0. -/
theorem Within.limit_nonneg {l x : Int} (h : Within l x) : 0 ≤ l := by
  unfold Within at h
  omega

/-- A value of no greater magnitude is within the limit. -/
theorem Within.of_mag_le {l x y : Int} (h : Within l x) (le : mag y ≤ mag x) : Within l y := by
  unfold Within mag at *
  split at le <;> split at le <;> omega

theorem effectiveLimit_nonneg {limit : Int} (h : 0 ≤ limit) (foldback : Bool) : 0 ≤ effectiveLimit foldback limit := by
  unfold effectiveLimit
  split
  · exact Int.tdiv_nonneg h (by decide)
  · exact h

theorem effectiveBudget_nonneg {p : Params} (h : p.InRange) (low : Bool) : 0 ≤ effectiveBudget p low :=
  effectiveLimit_nonneg h.supplyBudget_nonneg low

/-! ## Grants -/

theorem mag_nonneg (x : Int) : 0 ≤ mag x := by
  unfold mag
  split <;> omega

/-- A grant has the magnitude of its demand, or of what is left of the budget where that is less (07 R133). -/
theorem mag_grantWithin {left : Int} (h : 0 ≤ left) (demand : Int) :
    mag (grantWithin demand left) = min (mag demand) left := by
  unfold grantWithin sgn
  have := mag_nonneg demand
  split
  · unfold mag at *
    split <;> omega
  · split
    case isTrue zero =>
      subst zero
      rw [Int.zero_mul]
      exact (Int.min_eq_left h).symm
    case isFalse =>
      unfold mag at *
      split <;> omega

theorem Within.grantWithin {l demand left : Int} (h : Within l demand) (room : 0 ≤ left) :
    Within l (grantWithin demand left) :=
  h.of_mag_le (mag_grantWithin room demand ▸ Int.min_le_left _ _)

/-- A grant leaves no less than 0 of the budget (07 R133). -/
theorem sub_mag_grantWithin_nonneg {left : Int} (h : 0 ≤ left) (demand : Int) :
    0 ≤ left - mag (Machine.grantWithin demand left) :=
  Int.sub_nonneg_of_le (mag_grantWithin h demand ▸ Int.min_le_right _ _)

/-- Both grants are within the limits of their demands, in either order of the priorities. -/
theorem grantsOf_within {limT limS dT dS budget : Int} (p : Params) (room : 0 ≤ budget) (tilt : Within limT dT)
    (steer : Within limS dS) :
    Within limT (grantsOf p budget dT dS).1 ∧ Within limS (grantsOf p budget dT dS).2 := by
  unfold grantsOf
  split
  · exact ⟨tilt.grantWithin room, steer.grantWithin (sub_mag_grantWithin_nonneg room dT)⟩
  · exact ⟨tilt.grantWithin (sub_mag_grantWithin_nonneg room dS), steer.grantWithin room⟩

/-- A channel enters with its demand or with 0. -/
theorem Within.entered {l demand : Int} (h : Within l demand) (c : DriveChannel) : Within l (c.entered demand) := by
  unfold DriveChannel.entered
  split
  · exact h
  · exact within_zero h.limit_nonneg

/-- The grants that an arbitration of these demands sends (07 R133). -/
def State.grantsFor (s : State) (d : Demands) : Grants :=
  let g := grantsOf s.params (effectiveBudget s.params s.arbiter.supplyLow.value) (s.tilt.entered d.dT)
    (s.steer.entered d.dS)
  { gT := g.1, gS := g.2, limT := d.limT, limS := d.limS }

/-- An arbitration sends its grants, and nothing else under way is touched. -/
theorem takeDemands_flight (d : Demands) (s : State) :
    (takeDemands d s).flight = { s.flight with grants := s.flight.grants ++ [s.grantsFor d] } := by
  unfold takeDemands
  dsimp only
  split <;> split <;> simp [State.grantsFor]

end Sys2Proof.Machine
end


section
/-! PROOFS. Easing: most events leave the parameters and the gains, ask nothing new of the drives, and let a channel
apply what it did or nothing. -/

namespace Sys2Proof.Machine

/-! ## Channels -/

/-- The channel keeps its limit, and applies what it did or nothing (07 R120, R125, R128). -/
def DriveChannel.Eases (c d : DriveChannel) : Prop :=
  d.heldLimit = c.heldLimit ∧ (d.applied = c.applied ∨ d.applied = 0)

theorem DriveChannel.Eases.refl (c : DriveChannel) : c.Eases c := ⟨rfl, .inl rfl⟩

theorem DriveChannel.Eases.trans {c d e : DriveChannel} (first : c.Eases d) (second : d.Eases e) : c.Eases e := by
  obtain ⟨limit, applied⟩ := first
  obtain ⟨limit', applied' | nothing⟩ := second
  · exact ⟨limit'.trans limit, applied'.symm ▸ applied⟩
  · exact ⟨limit'.trans limit, .inr nothing⟩

theorem DriveChannel.Eases.within {c d : DriveChannel} (e : c.Eases d) (h : Within c.heldLimit c.applied) :
    Within d.heldLimit d.applied := by
  obtain ⟨limit, applied | nothing⟩ := e
  · rw [limit, applied]
    exact h
  · rw [limit, nothing]
    exact within_zero h.limit_nonneg

theorem DriveChannel.told_eases (c : DriveChannel) (enabled : Bool) : c.Eases (c.told enabled) := by
  unfold DriveChannel.told
  split
  case h_1 =>
    split
    · exact ⟨rfl, .inr rfl⟩
    · exact .refl c
  case h_2 =>
    split
    · exact .refl c
    · exact ⟨rfl, .inr rfl⟩
  case h_3 => exact .refl c

theorem DriveChannel.restore_eases (c : DriveChannel) (enabled : Bool) : c.Eases (c.restore enabled) := by
  unfold DriveChannel.restore
  split
  · exact ⟨rfl, .inr rfl⟩
  · exact .refl c
  · exact .refl c

theorem DriveChannel.trip_eases (c : DriveChannel) : c.Eases c.trip := ⟨rfl, .inr rfl⟩

theorem DriveChannel.next_eases (c : DriveChannel) (r : Nat) : c.Eases (c.next r) := ⟨rfl, .inl rfl⟩

/-! ## States -/

/-- The same parameters and gains, the same demands and grants under way, and each channel eased. -/
structure State.Eases (s t : State) : Prop where
  params : t.params = s.params
  applied : t.law.applied = s.law.applied
  held : t.law.held = s.law.held
  demands : t.flight.demands = s.flight.demands
  grants : t.flight.grants = s.flight.grants
  tilt : s.tilt.Eases t.tilt
  steer : s.steer.Eases t.steer

theorem State.Eases.refl (s : State) : s.Eases s := ⟨rfl, rfl, rfl, rfl, rfl, .refl _, .refl _⟩

theorem State.Eases.trans {s t u : State} (first : s.Eases t) (second : t.Eases u) : s.Eases u where
  params := second.params.trans first.params
  applied := second.applied.trans first.applied
  held := second.held.trans first.held
  demands := second.demands.trans first.demands
  grants := second.grants.trans first.grants
  tilt := first.tilt.trans second.tilt
  steer := first.steer.trans second.steer

/-- An update of other blocks eases. -/
theorem State.Eases.of_frame {s t : State}
    (h : t.params = s.params ∧ t.law = s.law ∧ t.flight.demands = s.flight.demands ∧
      t.flight.grants = s.flight.grants ∧ t.tilt = s.tilt ∧ t.steer = s.steer) : s.Eases t := by
  obtain ⟨params, law, demands, grants, tilt, steer⟩ := h
  exact ⟨params, law ▸ rfl, law ▸ rfl, demands, grants, tilt ▸ .refl _, steer ▸ .refl _⟩

section
variable (s : State)

theorem setTilt_eases {x : DriveChannel} (e : s.tilt.Eases x) : s.Eases (s.setTilt x) :=
  ⟨rfl, rfl, rfl, rfl, rfl, e, .refl _⟩

theorem setSteer_eases {x : DriveChannel} (e : s.steer.Eases x) : s.Eases (s.setSteer x) :=
  ⟨rfl, rfl, rfl, rfl, rfl, .refl _, e⟩

theorem tellChannels_eases : s.Eases (tellChannels s) :=
  (setTilt_eases s (s.tilt.told_eases _)).trans (setSteer_eases _ (s.steer.told_eases _))

theorem setCtl_eases (c : RegimeCtl) : s.Eases (s.setCtl c) := .of_frame (by simp)

theorem setFaults_eases (x : FaultUnit) : s.Eases (s.setFaults x) := .of_frame (by simp)

theorem post_eases (c : NoticeContent) : s.Eases (post s c) := .of_frame (by simp)

theorem increment_eases (id : CounterId) : s.Eases (increment s id) := .of_frame (by simp)

theorem detect_eases (k : FaultKind) : s.Eases (detect s k) := .of_frame (by simp)

theorem cancelLock_eases : s.Eases (cancelLock s) := .of_frame (by simp)

theorem deEnergize_eases : s.Eases (deEnergize s) := .of_frame (by simp)

/-! ### The regime controller -/

theorem enterRegime_eases (ctl : RegimeCtl) (cause : NoticeCause) : s.Eases (enterRegime s ctl cause) :=
  ((setCtl_eases s ctl).trans (tellChannels_eases _)).trans (post_eases _ _)

theorem enterReleasing_eases (cause : NoticeCause) : s.Eases (enterReleasing s cause) :=
  ⟨rfl, rfl, rfl, rfl, rfl, s.tilt.told_eases true, s.steer.told_eases true⟩

theorem enterCapturing_eases (cause : CaptureCause) : s.Eases (enterCapturing s cause) := enterRegime_eases s _ _

theorem enterEngaging_eases (forced mayHold : Bool) (cause : NoticeCause) :
    s.Eases (enterEngaging s forced mayHold cause) := by
  rw [enterEngaging_eq]
  exact ⟨rfl, rfl, rfl, rfl, rfl, s.tilt.told_eases _, s.steer.told_eases true⟩

theorem endHold_eases : s.Eases (endHold s) := by
  unfold endHold
  split
  · exact (setCtl_eases s _).trans (tellChannels_eases _)
  · exact .refl s

theorem abortCapture_eases (cause : NoticeCause) : s.Eases (abortCapture s cause) :=
  ((enterRegime_eases s _ cause).trans (post_eases _ _)).trans (increment_eases _ _)

theorem estimateInCapturing_eases (e : Estimate) : s.Eases (estimateInCapturing e s) := by
  unfold estimateInCapturing
  split
  · exact abortCapture_eases s _
  · split
    · exact enterEngaging_eases s _ _ _
    · exact .refl s

theorem estimateInActive_eases (e : Estimate) : s.Eases (estimateInActive e s) := by
  unfold estimateInActive
  split
  · exact enterCapturing_eases s _
  · split
    · exact enterCapturing_eases s _
    · exact .refl s

theorem estimateInLocked_eases : s.Eases (estimateInLocked s) := by
  unfold estimateInLocked
  split
  · exact enterReleasing_eases s _
  · exact .refl s

theorem estimateInHold_eases (e : Estimate) : s.Eases (estimateInHold e s) := by
  unfold estimateInHold
  split
  · exact endHold_eases s
  · exact .refl s

/-- The checks of an estimate, by regime; where the measurement matters, its loss first. -/
theorem estimateChecks_eases (e : Estimate) : s.Eases (estimateChecks e s) := by
  have unlessLost : ∀ t : State, s.Eases t → s.Eases (if e.meas = .lost then loseMeasurement s else t) := by
    intro t ht
    split
    · exact enterEngaging_eases s _ _ _
    · exact ht
  unfold estimateChecks
  cases s.ctl.regime
  case off => exact .refl s
  case locked => exact estimateInLocked_eases s
  case releasing => exact unlessLost s (.refl s)
  case active => exact unlessLost _ (estimateInActive_eases s e)
  case capturing => exact unlessLost _ (estimateInCapturing_eases s e)
  case engaging => exact estimateInHold_eases s e
  case failed => exact estimateInHold_eases s e

theorem takeEstimate_eases (e : Estimate) : s.Eases (takeEstimate e s) := by
  have checks := estimateChecks_eases (s.setCtl { s.ctl with latest := latestOf e }) e
  exact ⟨checks.params, checks.applied, checks.held, checks.demands, checks.grants, checks.tilt, checks.steer⟩

theorem takeClassChange_eases (cls : StrokeClass) : s.Eases (takeClassChange cls s) := by
  unfold takeClassChange
  split
  case h_1 => exact ((cancelLock_eases s).trans (enterRegime_eases _ _ _)).trans (increment_eases _ _)
  case h_2 => exact ((cancelLock_eases s).trans (enterRegime_eases _ _ _)).trans (increment_eases _ _)
  case h_3 => exact endHold_eases s
  case h_4 => exact .refl s

theorem releaseTimedOut_eases : s.Eases (releaseTimedOut s) :=
  (((deEnergize_eases s).trans (enterRegime_eases _ _ _)).trans (detect_eases _ _)).trans (increment_eases _ _)

theorem engageTimedOut_eases : s.Eases (engageTimedOut s) := (enterRegime_eases s _ _).trans (detect_eases _ _)

theorem takeLockExpiry_eases (run : RunNumber) : s.Eases (takeLockExpiry run s) := by
  unfold takeLockExpiry
  split
  · split
    · exact releaseTimedOut_eases s
    · exact engageTimedOut_eases s
    · exact .refl s
  · exact .refl s

theorem takeCaptureExpiry_eases (run : RunNumber) : s.Eases (takeCaptureExpiry run s) := by
  unfold takeCaptureExpiry
  split
  case h_2 => exact .refl s
  case h_1 =>
    split
    · split
      · exact enterEngaging_eases s _ _ _
      · exact .of_frame (by simp)
    · exact .refl s

theorem takeNotification_eases (k : FaultKind) : s.Eases (takeNotification k s) := by
  have hold : s.Eases (if leanOutOfHand s then endHold s else s) := by
    split
    · exact endHold_eases s
    · exact .refl s
  have unlessForced : ∀ (mayHold : Bool) (t : State), s.Eases t →
      s.Eases (if engagementForcing k s then enterEngaging s true mayHold .fault else t) := by
    intro mayHold t ht
    split
    · exact enterEngaging_eases s _ _ _
    · exact ht
  unfold takeNotification
  dsimp only
  cases s.ctl.regime
  case off => exact .refl s
  case locked => exact .refl s
  case releasing => exact enterEngaging_eases s _ _ _
  case active => exact unlessForced _ _ (enterCapturing_eases s _)
  case capturing =>
    refine unlessForced _ _ ?_
    split
    · exact .refl s
    · exact .of_frame (by simp)
  case engaging => exact hold
  case failed => exact hold

/-! ### The host's commands -/

theorem takeArm_eases : s.Eases (takeArm s).state := by
  unfold takeArm
  split
  case h_1 =>
    split
    · exact .refl s
    · split
      · exact .refl s
      · split
        · exact .refl s
        · exact enterRegime_eases s _ _
  all_goals exact .refl s

theorem takeDisarm_eases : s.Eases (takeDisarm s).state := by
  unfold takeDisarm
  split
  case h_1 => exact enterRegime_eases s _ _
  all_goals exact .refl s

theorem releaseFromLocked_eases : s.Eases (releaseFromLocked s).state := by
  unfold releaseFromLocked
  split
  · exact enterReleasing_eases s _
  · split <;> exact .refl s

theorem releaseFromCapturing_eases : s.Eases (releaseFromCapturing s).state := by
  unfold releaseFromCapturing
  split
  · exact .refl s
  · split
    · exact .refl s
    · exact abortCapture_eases s _

theorem takeRelease_eases : s.Eases (takeRelease s).state := by
  unfold takeRelease
  cases s.ctl.regime
  case locked => exact releaseFromLocked_eases s
  case capturing => exact releaseFromCapturing_eases s
  all_goals exact .refl s

theorem takeLock_eases : s.Eases (takeLock s).state := by
  unfold takeLock
  split
  case h_5 => exact enterEngaging_eases s _ _ _
  case h_6 => exact enterCapturing_eases s _
  case h_7 =>
    split
    · exact .of_frame (by simp [commandOk])
    · exact .refl s
  all_goals exact .refl s

/-! ### The fault unit and the channels -/

/-- A kind cleared restores its channel, if it has one. -/
theorem clearKind_eases (k : FaultKind) : s.Eases (clearKind s k) := by
  unfold clearKind
  dsimp only
  split
  case isFalse => exact .refl s
  case isTrue =>
    unfold handClearing
    split
    · exact (setFaults_eases s _).trans (setTilt_eases _ (DriveChannel.restore_eases _ _))
    · exact (setFaults_eases s _).trans (setSteer_eases _ (DriveChannel.restore_eases _ _))
    · exact setFaults_eases s _

theorem foldl_clearKind_eases (ks : List FaultKind) : s.Eases (ks.foldl clearKind s) := by
  induction ks generalizing s with
  | nil => exact .refl s
  | cons k ks ih => exact (clearKind_eases s k).trans (ih _)

theorem takeFaultClear_eases (bits : BitVec 16) : s.Eases (takeFaultClear bits s).state := by
  unfold takeFaultClear
  split
  · exact .refl s
  · exact (foldl_clearKind_eases s (kindsNamed bits)).trans (.of_frame (by simp))

/-- A class change and a fault of position ease. -/
theorem takeSnapshotAtClamp_eases (n : Snapshot) : s.Eases (takeSnapshotAtClamp n s) := by
  unfold takeSnapshotAtClamp
  dsimp only
  rw [sendClassChange_eq]
  split
  · exact .of_frame (by simp)
  · exact .of_frame (by simp)

theorem tripTilt_eases : s.Eases (tripTilt s) := (setTilt_eases s s.tilt.trip_eases).trans (detect_eases _ _)

theorem takeSnapshotAtTilt_eases (n : Snapshot) : s.Eases (takeSnapshotAtTilt n s) := by
  have sampled : s.Eases (s.setTilt (s.tilt.next n.results.iTilt)) := setTilt_eases s (s.tilt.next_eases _)
  unfold takeSnapshotAtTilt
  dsimp only
  split
  · exact sampled.trans (tripTilt_eases _)
  · exact sampled

theorem tripSteer_eases : s.Eases (tripSteer s) := by
  unfold tripSteer
  split
  · exact .refl s
  · split
    · exact (setSteer_eases s s.steer.trip_eases).trans (detect_eases _ _)
    · exact detect_eases s _

theorem takeSnapshotAtSteer_eases (n : Snapshot) : s.Eases (takeSnapshotAtSteer n s) := by
  have sampled : s.Eases (s.setSteer (s.steer.next n.results.iSteer)) := setSteer_eases s (s.steer.next_eases _)
  unfold takeSnapshotAtSteer
  dsimp only
  split
  · exact sampled.trans (tripSteer_eases _)
  · exact sampled

end

end Sys2Proof.Machine
end


section
/-! PROOFS. Ranges and limits, the laws: easing passes the parameter law, the gain law and the limit law on, and so does
each of the few events that do more. -/

namespace Sys2Proof.Machine

/-! ## What passes the laws on -/

/-- The parameter law, the gain law and, under lawful parameters, the limit law pass from one state to the other. -/
structure State.PassesLaws (s t : State) : Prop where
  params : s.ParamLaw → t.ParamLaw
  gains : s.GainLaw → t.GainLaw
  limits : s.ParamLaw → s.LimitLaw → t.LimitLaw

theorem State.PassesLaws.refl (s : State) : s.PassesLaws s := ⟨id, id, fun _ => id⟩

theorem State.PassesLaws.trans {s t u : State} (first : s.PassesLaws t) (second : t.PassesLaws u) : s.PassesLaws u where
  params h := second.params (first.params h)
  gains h := second.gains (first.gains h)
  limits hp h := second.limits (first.params hp) (first.limits hp h)

/-- The parameter law is of the parameters alone. -/
theorem State.ParamLaw.of_params_eq {s t : State} (h : s.ParamLaw) (same : t.params = s.params) : t.ParamLaw :=
  t.paramLaw_iff.mpr (same ▸ s.paramLaw_iff.mp h)

/-- The gain law is of the gains alone. -/
theorem State.GainLaw.of_gains_eq {s t : State} (h : s.GainLaw) (applied : t.law.applied = s.law.applied)
    (held : t.law.held = s.law.held) : t.GainLaw :=
  t.gainLaw_iff.mpr ((s.gainLaw_iff.mp h).of_gains_eq applied held)

/-- Easing passes all three laws on. -/
theorem State.Eases.passesLaws {s t : State} (e : s.Eases t) : s.PassesLaws t where
  params h := h.of_params_eq e.params
  gains h := h.of_gains_eq e.applied e.held
  limits _ h :=
    { demands := e.demands ▸ h.demands
      grants := e.grants ▸ h.grants
      tilt := e.tilt.within h.tilt
      steer := e.steer.within h.steer }

/-- Messages taken out of their lists leave the laws. -/
theorem setFlight_passesLaws (s : State) (f : Flight) (demands : ∀ d ∈ f.demands, d ∈ s.flight.demands)
    (grants : ∀ g ∈ f.grants, g ∈ s.flight.grants) : s.PassesLaws (s.setFlight f) where
  params h := h.of_params_eq rfl
  gains h := h.of_gains_eq rfl rfl
  limits _ h :=
    { demands := fun d mem => h.demands d (demands d mem)
      grants := fun g mem => h.grants g (grants g mem)
      tilt := h.tilt
      steer := h.steer }

/-- A channel after a warm reset applies nothing, within its limit parameter. -/
theorem DriveChannel.warm_within (c : DriveChannel) {limit : Int} (h : 0 ≤ limit) :
    Within (c.warm limit).heldLimit (c.warm limit).applied := by
  rw [c.warm_eq]
  exact within_zero h

theorem warmReset_passesLaws (s : State) : s.PassesLaws (warmReset s) := by
  rw [warmReset_blocks]
  exact
    { params := fun h => h.of_params_eq rfl
      gains := fun h => h.of_gains_eq rfl rfl
      limits := fun h _ =>
        { demands := nofun
          grants := nofun
          tilt := s.tilt.warm_within h.inRange.ilimT_nonneg
          steer := s.steer.warm_within h.inRange.ilimS_nonneg } }

/-- The straps and the queue do not enter into the laws. -/
theorem coldStart_passesLaws (s : State) (stationStraps : BitVec 3) (rateStraps : BitVec 2) (q : List Instr) :
    s.PassesLaws { State.coldStart stationStraps rateStraps with pending := q } where
  params _ := (State.paramLaw_iff _).mpr ⟨Params.start_inRange, Params.start_calibrated⟩
  gains _ := (State.gainLaw_iff _).mpr ControlLaw.start_inRange
  limits _ _ := ⟨nofun, nofun, within_zero Params.start_inRange.ilimT_nonneg,
    within_zero Params.start_inRange.ilimS_nonneg⟩

theorem applyHeld_passesLaws (s : State) : s.PassesLaws (s.setLaw s.law.applyHeld) where
  params h := h.of_params_eq rfl
  gains h := (State.gainLaw_iff _).mpr (s.gainLaw_iff.mp h).applyHeld
  limits _ h := ⟨h.demands, h.grants, h.tilt, h.steer⟩

/-- A parameter write touches none of the limits that came with what is under way. -/
theorem takeSetParam_passesLaws (id : Byte) (x : Int) (s : State) : s.PassesLaws (takeSetParam id x s).state where
  params h := takeSetParam_paramLaw id x h
  gains h := (State.gainLaw_iff _).mpr (takeSetParam_gainLaw id x (s.gainLaw_iff.mp h))
  limits _ h := by
    obtain ⟨demands, grants, tilt, steer⟩ := h
    constructor <;> simpa

/-- The demands of a decision are clamped to the limits that they are sent with, or 0 (06 R107, R109). -/
theorem demandsOf_within {p : Params} (h : p.InRange) (l : ControlLaw) (v : Int) (hot : Bool) (c : LeanCommand) :
    let d := demandsOf (l.next p v hot c) p
    Within d.limT d.dT ∧ Within d.limS d.dS := by
  have limT := effectiveLimit_nonneg h.ilimT_nonneg hot
  have limS := effectiveLimit_nonneg h.ilimS_nonneg hot
  refine ⟨?_, clampMag_within limS _⟩
  show Within (effectiveLimit hot p.ilimT) (if _ then 0 else _)
  split
  · exact within_zero limT
  · exact clampMag_within limT _

theorem takeLeanCommand_passesLaws (c : LeanCommand) (s : State) : s.PassesLaws (takeLeanCommand c s) where
  params h := h.of_params_eq rfl
  gains h := h.of_gains_eq rfl rfl
  limits hp h :=
    { demands := List.forall_mem_append.mpr
        ⟨h.demands, List.forall_mem_singleton.mpr (demandsOf_within hp.inRange s.law _ _ c)⟩
      grants := h.grants
      tilt := h.tilt
      steer := h.steer }

/-- The grants of demands within their limits are within them. -/
theorem takeDemands_passesLaws {d : Demands} {rest : List Demands} {s : State} (front : s.flight.demands = d :: rest) :
    s.PassesLaws (takeDemands d (s.setFlight { s.flight with demands := rest })) where
  params h := h.of_params_eq (by simp)
  gains h := h.of_gains_eq (by simp) (by simp)
  limits hp h := by
    obtain ⟨demands, grants, tilt, steer⟩ := h
    rw [front, List.forall_mem_cons] at demands
    obtain ⟨⟨withinT, withinS⟩, demandsLeft⟩ := demands
    have sent := grantsOf_within s.params (effectiveBudget_nonneg hp.inRange s.arbiter.supplyLow.value)
      (withinT.entered s.tilt) (withinS.entered s.steer)
    constructor
    · simpa [takeDemands_flight] using demandsLeft
    · rw [takeDemands_flight]
      exact List.forall_mem_append.mpr ⟨grants, List.forall_mem_singleton.mpr sent⟩
    · simpa using tilt
    · simpa using steer

/-- A channel takes its grant, or applies nothing, under the limit that the grant came with. -/
theorem DriveChannel.granted_within (c : DriveChannel) {grant limit : Int} (h : Within limit grant) :
    Within (c.granted grant limit).heldLimit (c.granted grant limit).applied := by
  unfold DriveChannel.granted
  split
  · exact h
  · exact within_zero h.limit_nonneg
  · exact within_zero h.limit_nonneg

theorem takeGrants_passesLaws {g : Grants} {rest : List Grants} {s : State} (front : s.flight.grants = g :: rest) :
    s.PassesLaws (takeGrants g (s.setFlight { s.flight with grants := rest })) where
  params h := h.of_params_eq rfl
  gains h := h.of_gains_eq rfl rfl
  limits _ h := by
    obtain ⟨demands, grants, -, -⟩ := h
    rw [front, List.forall_mem_cons] at grants
    obtain ⟨⟨withinT, withinS⟩, grantsLeft⟩ := grants
    exact ⟨demands, grantsLeft, s.tilt.granted_within withinT, s.steer.granted_within withinS⟩

/-! ## The whole -/

/-- The event of each block passes the laws on: most ease the state, the others as shown above. -/
theorem keeps_passesLaws (s₀ : State) : Keeps s₀.PassesLaws := by
  have eased : ∀ {s t : State}, s₀.PassesLaws s → s.Eases t → s₀.PassesLaws t := fun hs e => hs.trans e.passesLaws
  have frame : ∀ {s t : State}, s₀.PassesLaws s →
      t.params = s.params ∧ t.law = s.law ∧ t.flight.demands = s.flight.demands ∧
        t.flight.grants = s.flight.grants ∧ t.tilt = s.tilt ∧ t.steer = s.steer → s₀.PassesLaws t :=
    fun hs h => eased hs (.of_frame h)
  exact
    { flight := fun s f hs demands grants => hs.trans (setFlight_passesLaws s f demands grants)
      cold := fun a b q => coldStart_passesLaws s₀ a b q
      warm := fun s hs => hs.trans (warmReset_passesLaws s)
      tick := fun _ _ hs h => frame hs (by simp [execTimestampTick_frame h])
      period := fun _ _ hs h => frame hs (by simp [execAcquisitionPeriodStart_frame h])
      conversion := fun _ _ _ _ hs h => frame hs (by simp [execConversionComplete_frame h])
      estimator := fun _ _ hs => frame hs (by simp [takeSnapshotAtEstimator])
      clamp := fun n s hs => eased hs (takeSnapshotAtClamp_eases s n)
      tilt := fun n s hs => eased hs (takeSnapshotAtTilt_eases s n)
      steer := fun n s hs => eased hs (takeSnapshotAtSteer_eases s n)
      arbiter := fun _ _ hs => frame hs (by simp)
      estimate := fun e s hs => eased hs (takeEstimate_eases s e)
      classChange := fun c s hs => eased hs (takeClassChange_eases s c)
      pullIn := fun _ _ hs h => frame hs (by simp [execPullInEnd_frame h])
      lockTimer := fun _ _ hs h => frame hs (by simp [execLockTimerExpiry_frame h])
      lockExpiry := fun r s hs => eased hs (takeLockExpiry_eases s r)
      captureExpiry := fun r s hs => eased hs (takeCaptureExpiry_eases s r)
      notification := fun k s hs => eased hs (takeNotification_eases s k)
      set := fun _ _ hs => frame hs (by simp)
      apply := fun s hs => hs.trans (applyHeld_passesLaws s)
      decision := fun _ _ hs => frame hs (by simp [takeDecision])
      leanCommand := fun c s hs => hs.trans (takeLeanCommand_passesLaws c s)
      demands := fun _ _ _ hs front => hs.trans (takeDemands_passesLaws front)
      grants := fun _ _ _ hs front => hs.trans (takeGrants_passesLaws front)
      pulse := fun _ _ _ hs h => frame hs (by simp [execWheelPulse_frame h])
      evaluation := fun _ _ _ hs h => frame hs (by simp [execEvaluationTimerExpiry_frame h])
      character := fun c s hs =>
        takeCharacter_ind s₀.PassesLaws (fun _ _ hs => frame hs (by simp))
          (fun s id hs => eased hs (increment_eases s id)) (fun _ _ hs => frame hs (by simp))
          (fun s hs => hs.trans (warmReset_passesLaws s)) c s hs
      gap := fun _ _ _ hs h => frame hs (by simp [execGapTimerExpiry_frame h])
      turnaround := fun _ _ _ hs h => frame hs (by simp [execTurnaroundExpiry_frame h])
      reply := fun _ _ _ _ hs => frame hs (by simp)
      setParam := fun i x s hs => hs.trans (takeSetParam_passesLaws i x s)
      mapWrite := fun _ _ _ hs => frame hs (by simp)
      arm := fun s hs => eased hs (takeArm_eases s)
      disarm := fun s hs => eased hs (takeDisarm_eases s)
      release := fun s hs => eased hs (takeRelease_eases s)
      lock := fun s hs => eased hs (takeLock_eases s)
      restart := fun f s hs =>
        takeRestart_ind s₀.PassesLaws (fun _ _ hs => frame hs (by simp)) (fun _ _ _ _ hs => frame hs (by simp))
          (fun s hs => hs.trans (warmReset_passesLaws s)) f s hs
      faultClear := fun b s hs => eased hs (takeFaultClear_eases s b)
      faultConfig := fun _ _ _ _ _ hs => frame hs (by simp)
      counterRead := fun _ _ _ _ hs => frame hs (by simp)
      eventRead := fun _ _ hs => frame hs (by simp)
      sampleRead := fun _ _ _ hs => frame hs (by simp)
      acqConfig := fun _ _ _ hs => frame hs (by simp)
      acqSingle := fun _ hs => frame hs (by simp) }

/-- Every step passes the laws on. -/
theorem step_passesLaws {s t : State} (h : step s = .next t) : s.PassesLaws t := by
  have queue (u : State) (q : List Instr) : u.Eases { u with pending := q } :=
    .of_frame ⟨rfl, rfl, rfl, rfl, rfl, rfl⟩
  exact (keeps_passesLaws s).step (fun u q hs => hs.trans (queue u q).passesLaws) (.refl s) h

/-- Settles O57: every step passes the parameter law and the gain law on. -/
theorem rangeLawsAreKept : Obligations.RangeLawsAreKept := fun _ _ h =>
  ⟨(step_passesLaws h).params, (step_passesLaws h).gains⟩

/-- Settles O59: every step passes the limit law on under lawful parameters. -/
theorem limitLawIsKept : Obligations.LimitLawIsKept := fun _ _ h => (step_passesLaws h).limits

end Sys2Proof.Machine
end


section
/-! PROOFS. Drive channels, the commands: where a channel is enabled, what it makes of being told so, and the grant. -/

namespace Sys2Proof.Machine

/-! ## Enabling -/

/-- Where the TILT channel is enabled (07 R119). -/
theorem tiltEnabled_iff (r : Regime) (h : Option Bool) :
    tiltEnabled r h = true ↔ r = .releasing ∨ r = .active ∨ r = .capturing ∨
      ((r = .engaging ∨ r = .failed) ∧ h = some true) := by
  cases r <;> simp [tiltEnabled]

/-- The STEER channel is enabled everywhere but in OFF (07 R119). -/
theorem steerEnabled_iff (r : Regime) : steerEnabled r = true ↔ r ≠ .off := by simp [steerEnabled]

section
variable {c : DriveChannel}

theorem DriveChannel.told_of_off (h : c.state = .off) (enabled : Bool) :
    c.told enabled = if enabled then { c with state := .on, applied := 0 } else c := by
  simp [DriveChannel.told, h]

theorem DriveChannel.told_of_on (h : c.state = .on) (enabled : Bool) :
    c.told enabled = if enabled then c else { c with state := .off, applied := 0 } := by
  simp [DriveChannel.told, h]

theorem DriveChannel.told_of_tripped (h : c.state = .tripped) (enabled : Bool) : c.told enabled = c := by
  simp [DriveChannel.told, h]

end

/-- Settles O52: the regimes one by one, what a channel makes of being told in each state, and the solenoid's phases. -/
theorem channelsAndSolenoidObey : Obligations.ChannelsAndSolenoidObey := by
  refine ⟨fun r h => ⟨tiltEnabled_iff r h, steerEnabled_iff r⟩,
    fun c => ⟨fun off => ?_, fun on => ?_, fun tripped => ?_⟩, rfl, rfl, fun n => rfl⟩
  · exact ⟨DriveChannel.told_of_off off true, DriveChannel.told_of_off off false⟩
  · exact ⟨DriveChannel.told_of_on on true, DriveChannel.told_of_on on false⟩
  · exact ⟨DriveChannel.told_of_tripped tripped true, DriveChannel.told_of_tripped tripped false⟩

/-! ## GRANT -/

/-- A channel that is ON applies its grant, any other 0; the limit is held in every state (07 R121). -/
theorem DriveChannel.granted_eq (c : DriveChannel) (grant limit : Int) :
    c.granted grant limit = { c with applied := if c.state = .on then grant else 0, heldLimit := limit } := by
  unfold DriveChannel.granted
  cases state : c.state <;> rfl

/-- Settles O28: the grant taken out of its list, at both channels. -/
theorem grantIsApplied : Obligations.GrantIsApplied := by
  intro s g rest front
  simp only [exec, execGrant, front, takeGrants, DriveChannel.granted_eq]
  rfl

end Sys2Proof.Machine
end


section
/-! PROOFS. The regime controller's events: what is enough for a property to be kept by every one of them. -/

namespace Sys2Proof.Machine

/-- The parts of which the regime controller's events are made: the pieces of the controller that the channels are not
told, a change that both channels are told, the clamp's commands, what is sent, and the reports (01 R2 to R28). -/
structure RegimeParts (P : State → Prop) : Prop where
  ctl : ∀ s (c : RegimeCtl), P s → c.regime = s.ctl.regime → c.hold = s.ctl.hold → P (s.setCtl c)
  told : ∀ s (c : RegimeCtl), P s → P (tellChannels (s.setCtl c))
  clamp : ∀ s x, P s → P (s.setClamp x)
  flight : ∀ s f, P s → P (s.setFlight f)
  post : ∀ s c, P s → P (post s c)
  increment : ∀ s id, P s → P (increment s id)
  detect : ∀ s k, P s → P (detect s k)

namespace RegimeParts

section
variable {P : State → Prop} (parts : RegimeParts P) {s : State} (hs : P s)
include parts hs

/-! ## Transitions -/

theorem enterRegime (c : RegimeCtl) (cause : NoticeCause) : P (enterRegime s c cause) :=
  parts.post _ _ (parts.told s c hs)

theorem enterReleasing (cause : NoticeCause) : P (enterReleasing s cause) :=
  parts.flight _ _ (parts.enterRegime (parts.clamp _ _ (parts.clamp _ _ hs)) _ cause)

theorem enterCapturing (cause : CaptureCause) : P (enterCapturing s cause) := parts.enterRegime hs _ _

theorem enterEngaging (forced mayHold : Bool) (cause : NoticeCause) : P (enterEngaging s forced mayHold cause) :=
  parts.enterRegime (parts.clamp _ _ (parts.clamp _ _ hs)) _ cause

theorem endHold : P (endHold s) := by
  unfold Machine.endHold
  split
  · exact parts.told s _ hs
  · exact hs

theorem abortCapture (cause : NoticeCause) : P (abortCapture s cause) :=
  parts.increment _ _ (parts.post _ _ (parts.enterRegime hs _ cause))

/-! ## Events -/

theorem estimateInLocked : P (estimateInLocked s) := by
  unfold Machine.estimateInLocked
  split
  · exact parts.enterReleasing hs _
  · exact hs

theorem estimateInActive (e : Estimate) : P (estimateInActive e s) := by
  unfold Machine.estimateInActive
  split
  · exact parts.enterCapturing hs _
  · split
    · exact parts.enterCapturing hs _
    · exact hs

theorem estimateInCapturing (e : Estimate) : P (estimateInCapturing e s) := by
  unfold Machine.estimateInCapturing
  split
  · exact parts.abortCapture hs _
  · split
    · exact parts.enterEngaging hs _ _ _
    · exact hs

theorem estimateInHold (e : Estimate) : P (estimateInHold e s) := by
  unfold Machine.estimateInHold
  split
  · exact parts.endHold hs
  · exact hs

/-- The checks of an estimate, by regime; where the measurement matters, its loss first. -/
theorem estimateChecks (e : Estimate) : P (estimateChecks e s) := by
  have unlessLost : ∀ t, P t → P (if e.meas = .lost then loseMeasurement s else t) := by
    intro t ht
    split
    · exact parts.enterEngaging hs _ _ _
    · exact ht
  unfold Machine.estimateChecks
  cases s.ctl.regime
  case off => exact hs
  case locked => exact parts.estimateInLocked hs
  case releasing => exact unlessLost s hs
  case active => exact unlessLost _ (parts.estimateInActive hs e)
  case capturing => exact unlessLost _ (parts.estimateInCapturing hs e)
  case engaging => exact parts.estimateInHold hs e
  case failed => exact parts.estimateInHold hs e

theorem takeEstimate (e : Estimate) : P (takeEstimate e s) :=
  parts.flight _ _ (parts.estimateChecks (parts.ctl s { s.ctl with latest := latestOf e } hs rfl rfl) e)

theorem takeClassChange (cls : StrokeClass) : P (takeClassChange cls s) := by
  unfold Machine.takeClassChange
  split
  case h_1 => exact parts.increment _ _ (parts.enterRegime (parts.clamp _ _ hs) _ _)
  case h_2 => exact parts.increment _ _ (parts.enterRegime (parts.clamp _ _ hs) _ _)
  case h_3 => exact parts.endHold hs
  case h_4 => exact hs

theorem takeLockExpiry (run : RunNumber) : P (takeLockExpiry run s) := by
  rw [takeLockExpiry_eq]
  split
  · exact parts.increment _ _ (parts.detect _ _ (parts.enterRegime (parts.clamp _ _ hs) _ _))
  · split
    · exact parts.detect _ _ (parts.enterRegime hs _ _)
    · exact hs

theorem takeCaptureExpiry (run : RunNumber) : P (takeCaptureExpiry run s) := by
  unfold Machine.takeCaptureExpiry
  split
  case h_2 => exact hs
  case h_1 =>
    split
    · split
      · exact parts.enterEngaging hs _ _ _
      · exact parts.ctl _ _ (parts.detect s _ hs) rfl rfl
    · exact hs

theorem takeNotification (k : FaultKind) : P (takeNotification k s) := by
  have unlessForced : ∀ mayHold t, P t →
      P (if engagementForcing k s then Machine.enterEngaging s true mayHold .fault else t) := by
    intro mayHold t ht
    split
    · exact parts.enterEngaging hs _ _ _
    · exact ht
  have hold : P (if leanOutOfHand s then Machine.endHold s else s) := by
    split
    · exact parts.endHold hs
    · exact hs
  unfold Machine.takeNotification
  dsimp only
  cases s.ctl.regime
  case off => exact hs
  case locked => exact hs
  case releasing => exact parts.enterEngaging hs _ _ _
  case active => exact unlessForced _ _ (parts.enterCapturing hs _)
  case capturing =>
    refine unlessForced _ _ ?_
    split
    · exact hs
    · exact parts.ctl s _ hs rfl rfl
  case engaging => exact hold
  case failed => exact hold

/-! ## The host's commands -/

theorem takeArm : P (takeArm s).state := by
  unfold Machine.takeArm
  split
  case h_1 =>
    split
    · exact hs
    · split
      · exact hs
      · split
        · exact hs
        · exact parts.enterRegime hs _ _
  all_goals exact hs

theorem takeDisarm : P (takeDisarm s).state := by
  unfold Machine.takeDisarm
  split
  case h_1 => exact parts.enterRegime hs _ _
  all_goals exact hs

theorem takeRelease : P (takeRelease s).state := by
  unfold Machine.takeRelease
  split
  case h_1 =>
    unfold releaseFromLocked
    split
    · exact parts.enterReleasing hs _
    · split <;> exact hs
  case h_7 =>
    unfold releaseFromCapturing
    split
    · exact hs
    · split
      · exact hs
      · exact parts.abortCapture hs _
  all_goals exact hs

theorem takeLock : P (takeLock s).state := by
  unfold Machine.takeLock
  split
  case h_5 => exact parts.enterEngaging hs _ _ _
  case h_6 => exact parts.enterCapturing hs _
  case h_7 =>
    split
    · exact parts.ctl s _ hs rfl rfl
    · exact hs
  all_goals exact hs

end

end RegimeParts

end Sys2Proof.Machine
end


section
/-! PROOFS. Drive channels, the laws: what a channel, a table and a detection keep of them; the events that leave both
channels and set no status free; and the events that write a channel or clear a status. -/

namespace Sys2Proof.Machine

/-! ## Channels -/

/-- The channel applies 0 unless it is ON (07 R120). -/
def DriveChannel.Rests (c : DriveChannel) : Prop := c.state ≠ .on → c.applied = 0

theorem DriveChannel.Follows.rests {c : DriveChannel} {enabled : Bool} (h : c.Follows enabled) : c.Rests := h.2.2

section
variable {c : DriveChannel} {enabled : Bool}

theorem DriveChannel.follows_of_on (state : c.state = .on) (h : enabled = true) : c.Follows enabled := by
  simp [DriveChannel.Follows, state, h]

theorem DriveChannel.follows_of_off (state : c.state = .off) (h : enabled = false) (rests : c.applied = 0) :
    c.Follows enabled := by
  simp [DriveChannel.Follows, state, h, rests]

theorem DriveChannel.follows_of_tripped (state : c.state = .tripped) (rests : c.applied = 0) : c.Follows enabled := by
  simp [DriveChannel.Follows, state, rests]

/-- A channel told whether it is enabled follows, whatever it followed before (07 R120). -/
theorem DriveChannel.Rests.told_follows (h : c.Rests) (enabled : Bool) : (c.told enabled).Follows enabled := by
  cases state : c.state
  case off =>
    rw [told_of_off state]
    cases enabled
    case false => exact follows_of_off state rfl (h (by simp [state]))
    case true => exact follows_of_on rfl rfl
  case on =>
    rw [told_of_on state]
    cases enabled
    case false => exact follows_of_off rfl rfl rfl
    case true => exact follows_of_on state rfl
  case tripped =>
    rw [told_of_tripped state]
    exact follows_of_tripped state (h (by simp [state]))

theorem DriveChannel.Follows.restore (h : c.Follows enabled) : (c.restore enabled).Follows enabled := by
  unfold DriveChannel.restore
  split
  · cases enabled
    case false => exact follows_of_off rfl rfl rfl
    case true => exact follows_of_on rfl rfl
  · exact h
  · exact h

theorem DriveChannel.Follows.granted (h : c.Follows enabled) (grant limit : Int) :
    (c.granted grant limit).Follows enabled := by
  obtain ⟨on, off, -⟩ := h
  rw [granted_eq]
  exact ⟨on, off, fun state => if_neg state⟩

end

section
variable (c : DriveChannel)

theorem DriveChannel.trip_follows (enabled : Bool) : c.trip.Follows enabled := follows_of_tripped rfl rfl

/-- A channel after a warm reset is OFF or TRIPPED, and not enabled in OFF (07 R129). -/
theorem DriveChannel.warm_follows (limit : Int) : (c.warm limit).Follows false := by
  unfold DriveChannel.warm
  split
  · exact follows_of_tripped rfl rfl
  · exact follows_of_off rfl rfl rfl
  · exact follows_of_off rfl rfl rfl

/-- Being told neither trips a channel nor brings a TRIPPED one back (07 R120). -/
theorem DriveChannel.told_state_tripped_iff (enabled : Bool) :
    (c.told enabled).state = .tripped ↔ c.state = .tripped := by
  cases state : c.state
  case off => rw [told_of_off state]; cases enabled <;> simp [state]
  case on => rw [told_of_on state]; cases enabled <;> simp [state]
  case tripped => rw [told_of_tripped state, state]

theorem DriveChannel.granted_state (grant limit : Int) : (c.granted grant limit).state = c.state := by
  rw [granted_eq]

/-- A warm reset keeps a TRIPPED channel TRIPPED, and trips none (07 R129). -/
theorem DriveChannel.warm_state_tripped_iff (limit : Int) : (c.warm limit).state = .tripped ↔ c.state = .tripped := by
  unfold DriveChannel.warm
  split
  case h_1 tripped => simp [DriveChannel.start, tripped]
  case h_2 on => simp [DriveChannel.start, on]
  case h_3 off => simp [DriveChannel.start, off]

end

/-! ## Tables -/

/-- The fixed kinds stay as they must be, and every status that is SET stays SET. -/
structure FaultTable.Retains (t u : FaultTable) : Prop where
  fixed : t.FixedKinds → u.FixedKinds
  status : ∀ k, (t.get k).status.isSome = true → (u.get k).status.isSome = true

theorem FaultTable.Retains.refl (t : FaultTable) : t.Retains t := ⟨id, fun _ => id⟩

theorem FaultTable.Retains.trans {t u v : FaultTable} (first : t.Retains u) (second : u.Retains v) : t.Retains v :=
  ⟨fun h => second.fixed (first.fixed h), fun k h => second.status k (first.status k h)⟩

/-- A record written as a fixed kind must have it keeps the fixed kinds. -/
theorem FaultTable.FixedKinds.set {t : FaultTable} (h : t.FixedKinds) {k : FaultKind} {r : FaultRecord}
    (record : k.fixed = true → r.severity = .major ∧ r.detectMask = false) : (t.set k r).FixedKinds := by
  intro j fixed
  rw [FaultTable.get_set]
  split
  case isTrue same => exact record (same ▸ fixed)
  case isFalse => exact h j fixed

/-- A record written that leaves its status SET, and is as a fixed kind must be, retains. -/
theorem FaultTable.retains_set {t : FaultTable} {k : FaultKind} {r : FaultRecord}
    (record : t.FixedKinds → k.fixed = true → r.severity = .major ∧ r.detectMask = false)
    (status : (t.get k).status.isSome = true → r.status.isSome = true) : t.Retains (t.set k r) where
  fixed h := h.set (record h)
  status j set := by
    rw [FaultTable.get_set]
    split
    case isTrue same => exact status (same ▸ set)
    case isFalse => exact set

/-! ## Detections -/

/-- A detection writes the table where the kind is not masked and its status clear, and then sets it (08 R138). -/
theorem detect_table (s : State) (k : FaultKind) :
    let r := s.faults.table.get k
    (detect s k).faults.table =
      if r.detectMask = false ∧ r.status = none then
        s.faults.table.set k { r with status := some { severity := r.severity, time := s.notices.now } }
      else s.faults.table := by
  intro r
  unfold detect
  dsimp only
  split
  case isTrue masked => rw [if_neg (by simp [r, masked])]
  case isFalse unmasked =>
    split
    case h_1 clear =>
      rw [if_pos ⟨eq_false_of_ne_true unmasked, clear⟩]
      unfold recordDetection
      dsimp only
      split <;> split <;> simp [r]
    case h_2 f set => simp [r, set]

theorem detect_retains (s : State) (k : FaultKind) : s.faults.table.Retains (detect s k).faults.table := by
  rw [detect_table]
  split
  · exact FaultTable.retains_set (fun h fixed => h k fixed) fun _ => rfl
  · exact .refl _

/-- A kind that is not masked is SET once it has been detected. -/
theorem detect_sets {s : State} {k : FaultKind} (unmasked : (s.faults.table.get k).detectMask = false) :
    ((detect s k).faults.table.get k).status.isSome = true := by
  rw [detect_table]
  split
  case isTrue => simp
  case isFalse known => simpa [unmasked, ← Option.ne_none_iff_isSome] using known

/-! ## Events that leave the channels -/

/-- Both channels and what they are told stay as they are, and the table retains. -/
structure State.LeavesChannels (s t : State) : Prop where
  regime : t.ctl.regime = s.ctl.regime
  hold : t.ctl.hold = s.ctl.hold
  tilt : t.tilt = s.tilt
  steer : t.steer = s.steer
  table : s.faults.table.Retains t.faults.table

theorem State.LeavesChannels.refl (s : State) : s.LeavesChannels s := ⟨rfl, rfl, rfl, rfl, .refl _⟩

theorem State.LeavesChannels.trans {s t u : State} (first : s.LeavesChannels t) (second : t.LeavesChannels u) :
    s.LeavesChannels u where
  regime := second.regime.trans first.regime
  hold := second.hold.trans first.hold
  tilt := second.tilt.trans first.tilt
  steer := second.steer.trans first.steer
  table := first.table.trans second.table

/-- An update of other blocks leaves the channels. -/
theorem State.LeavesChannels.of_frame {s t : State}
    (h : t.ctl = s.ctl ∧ t.tilt = s.tilt ∧ t.steer = s.steer ∧ t.faults.table = s.faults.table) :
    s.LeavesChannels t := by
  obtain ⟨ctl, tilt, steer, table⟩ := h
  exact ⟨ctl ▸ rfl, ctl ▸ rfl, tilt, steer, table ▸ .refl _⟩

/-- A report that is made under a condition leaves the channels if the report does. -/
theorem State.LeavesChannels.ite {s t u : State} {p : Prop} [Decidable p] (yes : s.LeavesChannels t)
    (no : s.LeavesChannels u) : s.LeavesChannels (if p then t else u) := by
  split
  · exact yes
  · exact no

section
variable (s : State)

theorem detect_leavesChannels (k : FaultKind) : s.LeavesChannels (detect s k) :=
  ⟨by simp, by simp, by simp, by simp, detect_retains s k⟩

theorem increment_leavesChannels (id : CounterId) : s.LeavesChannels (increment s id) := .of_frame (by simp)

theorem post_leavesChannels (c : NoticeContent) : s.LeavesChannels (post s c) := .of_frame (by simp)

theorem settlePeriod_leavesChannels : s.LeavesChannels (settlePeriod s) := by
  have counted (q : Sequencer) : s.LeavesChannels ((increment s .missedPeriods).setAcq q) := .of_frame (by simp)
  unfold settlePeriod
  dsimp only
  split
  · split
    · exact .ite ((counted _).trans (detect_leavesChannels _ _)) (counted _)
    · exact increment_leavesChannels s _
  · exact .refl s

theorem execAcquisitionPeriodStart_leavesChannels {t : State} (h : execAcquisitionPeriodStart s = .next t) :
    s.LeavesChannels t := by
  have abandoned : s.LeavesChannels (s.setAcq { s.acq with inFlight := none }) := .of_frame ⟨rfl, rfl, rfl, rfl⟩
  cases h
  exact (abandoned.ite (abandoned.trans (settlePeriod_leavesChannels _))).trans (.of_frame ⟨rfl, rfl, rfl, rfl⟩)

theorem takeGlitch_leavesChannels : s.LeavesChannels (takeGlitch s) := by
  have counted (u : WheelUnit) : s.LeavesChannels ((increment s .speedGlitches).setWheel u) := .of_frame (by simp)
  exact (counted _).ite ((counted _).trans (detect_leavesChannels _ _))

theorem execWheelPulse_leavesChannels {elapsed : Nat} {t : State} (h : execWheelPulse elapsed s = .next t) :
    s.LeavesChannels t := by
  have wheel (u : WheelUnit) : s.LeavesChannels (s.setWheel u) := .of_frame ⟨rfl, rfl, rfl, rfl⟩
  unfold execWheelPulse at h
  dsimp only at h
  split at h
  case h_1 =>
    split at h <;> cases h
    · exact (wheel _).trans (takeGlitch_leavesChannels _)
    · exact wheel _
  case h_2 =>
    cases h
    exact wheel _

theorem reportSnapshot_leavesChannels (before after : Estimator) :
    s.LeavesChannels (reportSnapshot before after s) := by
  have detectIf (p : Prop) [Decidable p] (k : FaultKind) {t : State} (h : s.LeavesChannels t) :
      s.LeavesChannels (if p then detect t k else t) := (h.trans (detect_leavesChannels t k)).ite h
  have bar := detectIf (rises before.railBar after.railBar = true) .barRange (.refl s)
  have samples := (bar.trans (increment_leavesChannels _ .disagreeSamples)).ite (p := after.meas = .held) bar
  have lean := detectIf ((rises before.railA after.railA || rises before.railB after.railB) = true) .leanRange
    (detectIf (rises before.disagree.value after.disagree.value = true) .leanDisagree samples)
  have stand := lean.ite (p := before.stand.value = after.stand.value)
    (lean.trans (post_leavesChannels _ (.standChange after.stand.value)))
  exact detectIf (rises before.excess.value after.excess.value = true) .leanExcess stand

theorem takeSnapshotAtEstimator_leavesChannels (n : Snapshot) : s.LeavesChannels (takeSnapshotAtEstimator n s) :=
  have reported := reportSnapshot_leavesChannels (s.setEst (s.est.next s.params n)) s.est (s.est.next s.params n)
  ⟨reported.regime, reported.hold, reported.tilt, reported.steer, reported.table⟩

theorem takeSnapshotAtClamp_leavesChannels (n : Snapshot) : s.LeavesChannels (takeSnapshotAtClamp n s) := by
  unfold takeSnapshotAtClamp
  dsimp only
  rw [sendClassChange_eq]
  have sent (c : ClampCtl) (f : Flight) : s.LeavesChannels ((s.setClamp c).setFlight f) :=
    .of_frame ⟨rfl, rfl, rfl, rfl⟩
  exact ((sent _ _).trans (detect_leavesChannels _ _)).ite (sent _ _)

theorem takeSnapshotAtArbiter_leavesChannels (n : Snapshot) : s.LeavesChannels (takeSnapshotAtArbiter n s) := by
  have arbiter : s.LeavesChannels (s.setArbiter (s.arbiter.next s.params n)) := .of_frame ⟨rfl, rfl, rfl, rfl⟩
  have low := (arbiter.trans (detect_leavesChannels _ .supplyLow)).ite
    (p := rises s.arbiter.supplyLow.value (s.arbiter.next s.params n).supplyLow.value = true) arbiter
  exact (low.trans (detect_leavesChannels _ .overtemp)).ite low

/-- FAULT_CONFIG brings a fixed kind to MAJOR and unmasked, and writes no status (08 R144). -/
theorem takeFaultConfig_leavesChannels (kind severity detectMask reportMask : Byte) :
    s.LeavesChannels (takeFaultConfig kind severity detectMask reportMask s).state := by
  refine ⟨by simp, by simp, by simp, by simp, ?_⟩
  unfold takeFaultConfig
  split
  case h_1 => exact .refl _
  case h_2 k _ =>
    split
    case isTrue => exact .refl _
    case isFalse =>
      simp only [refreshAttention_frame, setRecord_frame]
      unfold FaultRecord.configure
      split
      · exact FaultTable.retains_set (fun _ _ => ⟨rfl, rfl⟩) id
      case isFalse free => exact FaultTable.retains_set (fun _ fixed => absurd fixed free) id

end

/-! ## What passes the laws on -/

/-- The channel law and the trip law pass from one state to the other. -/
structure State.PassesChannelLaws (s t : State) : Prop where
  channels : s.ChannelLaw → t.ChannelLaw
  trips : s.TripLaw → t.TripLaw

theorem State.PassesChannelLaws.refl (s : State) : s.PassesChannelLaws s := ⟨id, id⟩

theorem State.PassesChannelLaws.trans {s t u : State} (first : s.PassesChannelLaws t)
    (second : t.PassesChannelLaws u) : s.PassesChannelLaws u :=
  ⟨fun h => second.channels (first.channels h), fun h => second.trips (first.trips h)⟩

/-- The trip law passes to a table that retains and to channels that are TRIPPED only where they were. -/
theorem State.TripLaw.of_retains {s t : State} (h : s.TripLaw) (table : s.faults.table.Retains t.faults.table)
    (tilt : t.tilt.state = .tripped → s.tilt.state = .tripped)
    (steer : t.steer.state = .tripped → s.steer.state = .tripped) : t.TripLaw where
  fixed := table.fixed h.fixed
  tilt tripped := table.status .tiltDriveTrip (h.tilt (tilt tripped))
  steer tripped := table.status .steerDriveTrip (h.steer (steer tripped))

/-- A detection of a kind that is not masked brings the trip law, where no other kind's channel breaks it. -/
theorem detect_tripLaw {s : State} {k : FaultKind} (fixed : s.faults.table.FixedKinds)
    (unmasked : (s.faults.table.get k).detectMask = false)
    (tilt : k ≠ .tiltDriveTrip → s.tilt.state = .tripped → s.faults.table.tiltDriveTrip.status.isSome = true)
    (steer : k ≠ .steerDriveTrip → s.steer.state = .tripped → s.faults.table.steerDriveTrip.status.isSome = true) :
    (detect s k).TripLaw := by
  have kept := detect_leavesChannels s k
  have status (j : FaultKind) (known : k ≠ j → (s.faults.table.get j).status.isSome = true) :
      ((detect s k).faults.table.get j).status.isSome = true := by
    by_cases same : k = j
    · exact same ▸ detect_sets unmasked
    · exact kept.table.status j (known same)
  exact
    { fixed := kept.table.fixed fixed
      tilt := fun tripped => status .tiltDriveTrip fun other => tilt other (kept.tilt ▸ tripped)
      steer := fun tripped => status .steerDriveTrip fun other => steer other (kept.steer ▸ tripped) }

theorem State.LeavesChannels.passes {s t : State} (e : s.LeavesChannels t) : s.PassesChannelLaws t where
  channels h := by
    unfold State.ChannelLaw at *
    rwa [e.regime, e.hold, e.tilt, e.steer]
  trips h := h.of_retains e.table (e.tilt ▸ id) (e.steer ▸ id)

/-- An event that leaves the channels adds nothing to what has passed the laws on. -/
theorem State.PassesChannelLaws.leaves {s₀ s t : State} (hs : s₀.PassesChannelLaws s) (e : s.LeavesChannels t) :
    s₀.PassesChannelLaws t := hs.trans e.passes

section
variable (s : State)

/-- A change of regime or hold flag that both channels are told. -/
theorem tellChannels_passes (c : RegimeCtl) : s.PassesChannelLaws (tellChannels (s.setCtl c)) where
  channels := fun ⟨tilt, steer⟩ => ⟨tilt.rests.told_follows _, steer.rests.told_follows _⟩
  trips h := h.of_retains (.refl _) (s.tilt.told_state_tripped_iff _).mp (s.steer.told_state_tripped_iff _).mp

theorem takeGrants_passes (g : Grants) : s.PassesChannelLaws (takeGrants g s) where
  channels := fun ⟨tilt, steer⟩ => ⟨tilt.granted g.gT g.limT, steer.granted g.gS g.limS⟩
  trips h := h.of_retains (.refl _) ((s.tilt.granted_state _ _).symm.trans ·)
    ((s.steer.granted_state _ _).symm.trans ·)

theorem warmBlocks_passes : s.PassesChannelLaws (warmBlocks s) where
  channels _ := ⟨s.tilt.warm_follows _, s.steer.warm_follows _⟩
  trips h := h.of_retains (.refl _) (s.tilt.warm_state_tripped_iff _).mp (s.steer.warm_state_tripped_iff _).mp

theorem warmReset_passes : s.PassesChannelLaws (warmReset s) := by
  unfold warmReset
  split
  · exact warmBlocks_passes s
  · exact (warmBlocks_passes s).leaves (post_leavesChannels _ _)

theorem coldStart_passes (stationStraps : BitVec 3) (rateStraps : BitVec 2) (q : List Instr) :
    s.PassesChannelLaws { State.coldStart stationStraps rateStraps with pending := q } := by
  obtain ⟨-, -, -, channels, ⟨fixed, tilt, steer⟩, -⟩ := resetIsLawful
  exact ⟨fun _ => channels, fun _ => ⟨fixed, tilt, steer⟩⟩

/-! ### Trips -/

/-- A trip of TILT is detected, since its kind is never masked (08 R144). -/
theorem tripTilt_passes : s.PassesChannelLaws (tripTilt s) where
  channels := fun ⟨_, steer⟩ =>
    (detect_leavesChannels (s.setTilt s.tilt.trip) .tiltDriveTrip).passes.channels ⟨s.tilt.trip_follows _, steer⟩
  trips h := detect_tripLaw (s := s.setTilt s.tilt.trip) h.fixed (h.fixed .tiltDriveTrip rfl).2
    (fun other => absurd rfl other) fun _ => h.steer

/-- A trip of STEER is made only where its kind is not masked (07 R126). -/
theorem tripSteer_passes : s.PassesChannelLaws (tripSteer s) := by
  unfold tripSteer
  split
  case isTrue => exact .refl s
  case isFalse unmasked =>
    split
    case h_2 => exact (detect_leavesChannels s _).passes
    case h_1 =>
      exact
        { channels := fun ⟨tilt, _⟩ =>
            (detect_leavesChannels (s.setSteer s.steer.trip) .steerDriveTrip).passes.channels
              ⟨tilt, s.steer.trip_follows _⟩
          trips := fun h =>
            detect_tripLaw (s := s.setSteer s.steer.trip) h.fixed (eq_false_of_ne_true unmasked)
              (fun _ => h.tilt) fun other => absurd rfl other }

/-- A sample leaves a channel's state and what it applies. -/
theorem takeSnapshotAtTilt_passes (n : Snapshot) : s.PassesChannelLaws (takeSnapshotAtTilt n s) := by
  have sampled : s.PassesChannelLaws (s.setTilt (s.tilt.next n.results.iTilt)) :=
    ⟨id, fun h => ⟨h.fixed, h.tilt, h.steer⟩⟩
  unfold takeSnapshotAtTilt
  dsimp only
  split
  · exact sampled.trans (tripTilt_passes _)
  · exact sampled

theorem takeSnapshotAtSteer_passes (n : Snapshot) : s.PassesChannelLaws (takeSnapshotAtSteer n s) := by
  have sampled : s.PassesChannelLaws (s.setSteer (s.steer.next n.results.iSteer)) :=
    ⟨id, fun h => ⟨h.fixed, h.tilt, h.steer⟩⟩
  unfold takeSnapshotAtSteer
  dsimp only
  split
  · exact sampled.trans (tripSteer_passes _)
  · exact sampled

/-! ### Clearings -/

/-- A status cleared is handed to its channel, which is told as it stands whether it is enabled (07 R128). -/
theorem handClearing_channelLaw (k : FaultKind) {s : State} (h : s.ChannelLaw) : (handClearing k s).ChannelLaw := by
  obtain ⟨tilt, steer⟩ := h
  unfold handClearing
  split
  · exact ⟨tilt.restore, steer⟩
  · exact ⟨tilt, steer.restore⟩
  · exact ⟨tilt, steer⟩

/-- A channel that is TRIPPED after a clearing was so before, and its status was not the one cleared. -/
theorem clearKind_passes (k : FaultKind) : s.PassesChannelLaws (clearKind s k) where
  channels h := by
    unfold clearKind
    dsimp only
    split
    · exact handClearing_channelLaw k h
    · exact h
  trips h := by
    obtain ⟨table, -, tilt, steer, -⟩ := clearKind_spec s k
    refine ⟨fun j fixed => ?fixed, fun tripped => ?tilt, fun tripped => ?steer⟩
    case fixed =>
      rw [table]
      split <;> exact h.fixed j fixed
    case tilt =>
      change ((clearKind s k).faults.table.get .tiltDriveTrip).status.isSome = true
      rw [tilt] at tripped
      split at tripped
      case isTrue => cases tripped
      case isFalse uncleared =>
        rw [table, if_neg fun ⟨named, clears⟩ => uncleared ⟨named.symm, named ▸ clears, tripped⟩]
        exact h.tilt tripped
    case steer =>
      change ((clearKind s k).faults.table.get .steerDriveTrip).status.isSome = true
      rw [steer] at tripped
      split at tripped
      case isTrue => revert tripped; dsimp only; split <;> exact nofun
      case isFalse uncleared =>
        rw [table, if_neg fun ⟨named, clears⟩ => uncleared ⟨named.symm, named ▸ clears, tripped⟩]
        exact h.steer tripped

theorem foldl_clearKind_passes (ks : List FaultKind) : s.PassesChannelLaws (ks.foldl clearKind s) := by
  induction ks generalizing s with
  | nil => exact .refl s
  | cons k ks ih => exact (clearKind_passes s k).trans (ih _)

theorem takeFaultClear_passes (bits : BitVec 16) : s.PassesChannelLaws (takeFaultClear bits s).state := by
  unfold takeFaultClear
  split
  · exact .refl s
  · exact (foldl_clearKind_passes s (kindsNamed bits)).leaves (.of_frame (by simp))

end

/-! ## The whole -/

/-- The parts of which the regime controller's events are made pass the laws on. -/
theorem regimeParts_passesChannelLaws (s₀ : State) : RegimeParts s₀.PassesChannelLaws where
  ctl _ _ hs regime hold := hs.leaves ⟨regime, hold, rfl, rfl, .refl _⟩
  told s c hs := hs.trans (tellChannels_passes s c)
  clamp _ _ hs := hs.leaves (.of_frame ⟨rfl, rfl, rfl, rfl⟩)
  flight _ _ hs := hs.leaves (.of_frame ⟨rfl, rfl, rfl, rfl⟩)
  post s c hs := hs.leaves (post_leavesChannels s c)
  increment s id hs := hs.leaves (increment_leavesChannels s id)
  detect s k hs := hs.leaves (detect_leavesChannels s k)

/-- The event of each block passes the laws on: most leave the channels, the others as shown above. -/
theorem keeps_passesChannelLaws (s₀ : State) : Keeps s₀.PassesChannelLaws := by
  have regime := regimeParts_passesChannelLaws s₀
  have frame : ∀ {s t : State}, s₀.PassesChannelLaws s →
      t.ctl = s.ctl ∧ t.tilt = s.tilt ∧ t.steer = s.steer ∧ t.faults.table = s.faults.table →
      s₀.PassesChannelLaws t := fun hs h => hs.leaves (.of_frame h)
  exact
    { flight := fun _ _ hs _ _ => frame hs (by simp)
      cold := fun a b q => coldStart_passes s₀ a b q
      warm := fun s hs => hs.trans (warmReset_passes s)
      tick := fun _ _ hs h => by
        obtain ⟨-, -, -, -, -, tilt, steer, -, faults, -, -, -, -, regime, -, hold, -⟩ := execTimestampTick_frame h
        exact hs.leaves ⟨regime, hold, tilt, steer, faults ▸ .refl _⟩
      period := fun s _ hs h => hs.leaves (execAcquisitionPeriodStart_leavesChannels s h)
      conversion := fun _ _ _ _ hs h => frame hs (by simp [execConversionComplete_frame h])
      estimator := fun n s hs => hs.leaves (takeSnapshotAtEstimator_leavesChannels s n)
      clamp := fun n s hs => hs.leaves (takeSnapshotAtClamp_leavesChannels s n)
      tilt := fun n s hs => hs.trans (takeSnapshotAtTilt_passes s n)
      steer := fun n s hs => hs.trans (takeSnapshotAtSteer_passes s n)
      arbiter := fun n s hs => hs.leaves (takeSnapshotAtArbiter_leavesChannels s n)
      estimate := fun e _ hs => regime.takeEstimate hs e
      classChange := fun c _ hs => regime.takeClassChange hs c
      pullIn := fun _ _ hs h => frame hs (by simp [execPullInEnd_frame h])
      lockTimer := fun _ _ hs h => frame hs (by simp [execLockTimerExpiry_frame h])
      lockExpiry := fun r _ hs => regime.takeLockExpiry hs r
      captureExpiry := fun r _ hs => regime.takeCaptureExpiry hs r
      notification := fun k _ hs => regime.takeNotification hs k
      set := fun _ _ hs => frame hs (by simp)
      apply := fun _ hs => frame hs (by simp)
      decision := fun _ _ hs => frame hs (by simp)
      leanCommand := fun _ _ hs => frame hs (by simp)
      demands := fun _ _ _ hs _ => frame hs (by simp)
      grants := fun g _ s hs _ => (frame hs (by simp)).trans (takeGrants_passes _ g)
      pulse := fun _ s _ hs h => hs.leaves (execWheelPulse_leavesChannels s h)
      evaluation := fun _ _ _ hs h => frame hs (by simp [execEvaluationTimerExpiry_frame h])
      character := fun c s hs =>
        takeCharacter_ind s₀.PassesChannelLaws (fun _ _ hs => frame hs (by simp))
          (fun s id hs => hs.leaves (increment_leavesChannels s id)) (fun _ _ hs => frame hs (by simp))
          (fun s hs => hs.trans (warmReset_passes s)) c s hs
      gap := fun _ _ _ hs h => frame hs (by simp [execGapTimerExpiry_frame h])
      turnaround := fun _ _ _ hs h => frame hs (by simp [execTurnaroundExpiry_frame h])
      reply := fun _ _ _ _ hs => frame hs (by simp)
      setParam := fun _ _ _ hs => frame hs (by simp)
      mapWrite := fun _ _ _ hs => frame hs (by simp)
      arm := fun _ hs => regime.takeArm hs
      disarm := fun _ hs => regime.takeDisarm hs
      release := fun _ hs => regime.takeRelease hs
      lock := fun _ hs => regime.takeLock hs
      restart := fun f s hs =>
        takeRestart_ind s₀.PassesChannelLaws (fun _ _ hs => frame hs (by simp)) (fun _ _ _ _ hs => frame hs (by simp))
          (fun s hs => hs.trans (warmReset_passes s)) f s hs
      faultClear := fun b s hs => hs.trans (takeFaultClear_passes s b)
      faultConfig := fun k x d r s hs => hs.leaves (takeFaultConfig_leavesChannels s k x d r)
      counterRead := fun _ _ _ _ hs => frame hs (by simp)
      eventRead := fun _ _ hs => frame hs (by simp)
      sampleRead := fun _ _ _ hs => frame hs (by simp)
      acqConfig := fun _ _ _ hs => frame hs (by simp)
      acqSingle := fun _ hs => frame hs (by simp) }

/-- Settles O55: every step passes the channel law and the trip law on. -/
theorem channelLawsAreKept : Obligations.ChannelLawsAreKept := by
  intro s t h
  have queue (u : State) (q : List Instr) : u.LeavesChannels { u with pending := q } :=
    .of_frame ⟨rfl, rfl, rfl, rfl⟩
  have passes := (keeps_passesChannelLaws s).step (fun u q hs => hs.leaves (queue u q)) (.refl s) h
  exact ⟨passes.channels, passes.trips⟩

end Sys2Proof.Machine
end


section
/-! PROOFS. Drive channels, the snapshots: a detection past the drive channels, the arbiter and the lists of their
snapshots; and from that the snapshot at each channel. -/

namespace Sys2Proof.Machine

/-! ## A detection past the drive blocks -/

/-- A detection reads nothing of the channels and the arbiter, nor the lists of their snapshots. -/
theorem detect_driveOverlay (s : State) (tilt steer : DriveChannel) (a : Arbiter)
    (snapTilt snapSteer snapArb : List Snapshot) (k : FaultKind) :
    detect { s with
        tilt := tilt, steer := steer, arbiter := a
        flight := { s.flight with snapTilt := snapTilt, snapSteer := snapSteer, snapArb := snapArb } } k =
      { detect s k with
        tilt := tilt, steer := steer, arbiter := a
        flight := { (detect s k).flight with snapTilt := snapTilt, snapSteer := snapSteer, snapArb := snapArb } } := by
  refine Eq.trans (detect_of_sameReports (t := s) ?_ k) ?_
  · exact ⟨rfl, rfl, rfl, rfl, rfl⟩
  · simp

/-! ## SNAPSHOT_AT_CHANNEL -/

/-- Echo mismatch: reference and current each 50 or more in magnitude, and of opposite signs (07 R123). -/
theorem echoRaw_eq (ref i : Int) :
    echoRaw ref i = decide (50 ≤ mag ref ∧ 50 ≤ mag i ∧ ((0 < ref ∧ i < 0) ∨ (ref < 0 ∧ 0 < i))) := by
  have opposite : 50 ≤ mag ref → (sgn i = -(sgn ref) ↔ (0 < ref ∧ i < 0) ∨ (ref < 0 ∧ 0 < i)) := by
    unfold mag sgn
    intro
    (repeat' split) <;> omega
  rw [echoRaw, Bool.eq_iff_iff]
  simp only [Bool.and_eq_true, decide_eq_true_eq, and_assoc]
  exact and_congr_right fun large => and_congr_right fun _ => opposite large

/-- Steps 1 to 4 of a snapshot at a channel, in the order of 07 R122. -/
theorem DriveChannel.next_eq (c : DriveChannel) (r : Nat) :
    let i := (((r : Int) - 2048) * 320).tdiv 256
    c.next r =
      { c with
        current := i
        echo := c.echo.eval (decide (50 ≤ mag c.echoRef ∧ 50 ≤ mag i ∧
          ((0 < c.echoRef ∧ i < 0) ∨ (c.echoRef < 0 ∧ 0 < i))))
        echoRef := c.applied
        overcurrent := c.overcurrent.eval (decide ((c.heldLimit * 3).tdiv 2 < mag i)) } := by
  rw [DriveChannel.next, echoRaw_eq]
  rfl

section
variable {s : State} {n : Snapshot} {rest : List Snapshot}

theorem exec_snapshotAtTilt (front : s.flight.snapTilt = n :: rest) :
    exec (.snapshotAtChannel .tilt) s =
      .next (takeSnapshotAtTilt n (s.setFlight { s.flight with snapTilt := rest })) := by
  simp only [exec, execSnapshotAtChannel, front]

theorem exec_snapshotAtSteer (front : s.flight.snapSteer = n :: rest) :
    exec (.snapshotAtChannel .steer) s =
      .next (takeSnapshotAtSteer n (s.setFlight { s.flight with snapSteer := rest })) := by
  simp only [exec, execSnapshotAtChannel, front]

end

/-- What a snapshot leaves at TILT: at most one detection, on the state before, and then the channel TRIPPED. -/
theorem takeSnapshotAtTilt_eq (s : State) (n : Snapshot) (rest : List Snapshot) :
    let after := s.tilt.next n.results.iTilt
    let d := if tripDue s.tilt after then detect s .tiltDriveTrip else s
    takeSnapshotAtTilt n (s.setFlight { s.flight with snapTilt := rest }) =
      { d with
        tilt := if tripDue s.tilt after then after.trip else after
        flight := { d.flight with snapTilt := rest } } := by
  intro after d
  have detected := detect_driveOverlay s after.trip s.steer s.arbiter rest s.flight.snapSteer s.flight.snapArb
    .tiltDriveTrip
  by_cases due : tripDue s.tilt after = true
  · simp only [d, if_pos due]
    refine (if_pos due).trans (detected.trans ?_)
    simp
  · simp only [d, if_neg due]
    exact if_neg due

/-- A trip of STEER is a detection where its kind is not masked, and puts the channel out of service where
STEER_TRIP_ACT says so (07 R126). -/
theorem tripSteer_eq (s : State) :
    tripSteer s =
      if s.faults.table.steerDriveTrip.detectMask = false then
        detect (s.setSteer (if s.params.steerTripAct = .disable then s.steer.trip else s.steer)) .steerDriveTrip
      else s := by
  unfold tripSteer
  cases s.faults.table.steerDriveTrip.detectMask <;> cases s.params.steerTripAct <;> rfl

/-- What a snapshot leaves at STEER: nothing more where its kind is masked; at most one detection, on the state before,
and then the channel TRIPPED where STEER_TRIP_ACT says so (07 R126). -/
theorem takeSnapshotAtSteer_eq (s : State) (n : Snapshot) (rest : List Snapshot) :
    let after := s.steer.next n.results.iSteer
    let acts := tripDue s.steer after && !s.faults.table.steerDriveTrip.detectMask
    let d := if acts then detect s .steerDriveTrip else s
    takeSnapshotAtSteer n (s.setFlight { s.flight with snapSteer := rest }) =
      { d with
        steer := if acts && decide (s.params.steerTripAct = .disable) then after.trip else after
        flight := { d.flight with snapSteer := rest } } := by
  intro after acts d
  have choice : takeSnapshotAtSteer n (s.setFlight { s.flight with snapSteer := rest }) =
      if acts = true then
        detect ((s.setFlight { s.flight with snapSteer := rest }).setSteer
          (if s.params.steerTripAct = .disable then after.trip else after)) .steerDriveTrip
      else (s.setFlight { s.flight with snapSteer := rest }).setSteer after :=
    (ite_congr rfl (fun _ => tripSteer_eq _) fun _ => rfl).trans
      ((choice_and _ _).trans (choice_congr (by simp [acts, after]) rfl rfl))
  rw [choice]
  by_cases trips : acts = true
  · have detected := detect_driveOverlay s s.tilt (if s.params.steerTripAct = .disable then after.trip else after)
      s.arbiter s.flight.snapTilt rest s.flight.snapArb .steerDriveTrip
    simp only [d, trips, Bool.true_and, if_true, decide_eq_true_eq]
    refine detected.trans ?_
    simp
  · simp only [d, trips, Bool.false_and, Bool.false_eq_true, if_false]
    rfl

/-- Settles O12: each channel after the snapshot in the statement's words, in the state that the snapshot leaves. -/
theorem snapshotAtTheChannels : Obligations.SnapshotAtTheChannels := by
  intro s n rest after trips
  refine ⟨fun front => ?_, fun front => ?_⟩
  · rw [exec_snapshotAtTilt front, takeSnapshotAtTilt_eq, DriveChannel.next_eq]
    rfl
  · rw [exec_snapshotAtSteer front, takeSnapshotAtSteer_eq, DriveChannel.next_eq]
    rfl

end Sys2Proof.Machine
end


section
/-! PROOFS. The supply budget arbiter, the events: the snapshot at the arbiter; and an arbitration, with its grants, and
its count and notice past what it writes itself. -/

namespace Sys2Proof.Machine

/-! ## SNAPSHOT_AT_ARBITER -/

/-- The state with the arbiter and the list of its snapshots written. -/
def State.atArbiter (s : State) (a : Arbiter) (snaps : List Snapshot) : State :=
  { s with arbiter := a, flight := { s.flight with snapArb := snaps } }

/-- A detection under a condition reads neither of the two. -/
theorem detectIf_atArbiter (s : State) (a : Arbiter) (snaps : List Snapshot) (p : Prop) [Decidable p] (k : FaultKind) :
    (if p then detect (s.atArbiter a snaps) k else s.atArbiter a snaps) =
      (if p then detect s k else s).atArbiter a snaps := by
  split
  · refine (detect_driveOverlay s s.tilt s.steer a s.flight.snapTilt s.flight.snapSteer snaps k).trans ?_
    simp [State.atArbiter]
  · rfl

/-- What a snapshot leaves at the arbiter: its detections as on the state before, and the two qualifiers. -/
theorem takeSnapshotAtArbiter_eq (s : State) (n : Snapshot) (rest : List Snapshot) :
    let after := s.arbiter.next s.params n
    let d1 := if rises s.arbiter.supplyLow.value after.supplyLow.value then detect s .supplyLow else s
    let d2 := if rises s.arbiter.overTemp.value after.overTemp.value then detect d1 .overtemp else d1
    takeSnapshotAtArbiter n (s.setFlight { s.flight with snapArb := rest }) = d2.atArbiter after rest := by
  intro after d1 d2
  have low := detectIf_atArbiter s after rest (rises s.arbiter.supplyLow.value after.supplyLow.value = true) .supplyLow
  have hot := detectIf_atArbiter d1 after rest (rises s.arbiter.overTemp.value after.overTemp.value = true) .overtemp
  exact (congrArg (fun t => if rises s.arbiter.overTemp.value after.overTemp.value then detect t .overtemp else t)
    low).trans hot

theorem exec_snapshotAtArbiter {s : State} {n : Snapshot} {rest : List Snapshot}
    (front : s.flight.snapArb = n :: rest) :
    exec .snapshotAtArbiter s =
      .next (takeSnapshotAtArbiter n (s.setFlight { s.flight with snapArb := rest })) := by
  simp only [exec, execSnapshotAtArbiter, front]

/-- Settles O13: the qualifiers' conditions are the statement's, in the state that the snapshot leaves. -/
theorem snapshotAtTheArbiter : Obligations.SnapshotAtTheArbiter := by
  intro s n rest front low hot d1 d2
  rw [exec_snapshotAtArbiter front, takeSnapshotAtArbiter_eq]
  rfl

/-! ## ARBITRATION -/

/-- An increment reads neither the arbiter nor what is under way. -/
theorem increment_arbiterOverlay (s : State) (a : Arbiter) (x : Flight) (id : CounterId) :
    increment { s with arbiter := a, flight := x } id = { increment s id with arbiter := a, flight := x } := by
  obtain ⟨stats, notices⟩ := increment_congr (s := { s with arbiter := a, flight := x }) (t := s) id rfl rfl rfl
  apply State.ext_blocks <;> simp [stats, notices]

/-- Each of the two grants, by the order of the priorities (07 R133). -/
theorem grantsOf_eq (p : Params) (budget dT dS : Int) :
    grantsOf p budget dT dS =
      (if p.prioS ≤ p.prioT then grantWithin dT budget else grantWithin dT (budget - mag (grantWithin dS budget)),
        if p.prioS ≤ p.prioT then grantWithin dS (budget - mag (grantWithin dT budget))
        else grantWithin dS budget) := by
  unfold grantsOf
  split <;> rfl

/-- The period of an arbitration of these demands is a cut one (07 R134). -/
def State.cutsFor (s : State) (d : Demands) : Bool :=
  decide (mag (s.grantsFor d).gT < mag (s.tilt.entered d.dT)) ||
    decide (mag (s.grantsFor d).gS < mag (s.steer.entered d.dS))

/-- The state with a cut period counted, and with the notice of the first of a run posted (07 R134). -/
def State.cutReported (s : State) (cut first : Bool) (g : Grants) : State :=
  let counted := if cut then increment s .budgetCutPeriods else s
  if cut && first then post counted (.budgetCut g.gT g.gS) else counted

/-- The reports of a cut read neither the arbiter nor what is under way. -/
theorem State.cutReported_arbiterOverlay (s : State) (a : Arbiter) (x : Flight) (cut first : Bool) (g : Grants) :
    State.cutReported { s with arbiter := a, flight := x } cut first g =
      { s.cutReported cut first g with arbiter := a, flight := x } := by
  unfold State.cutReported
  cases cut with
  | false => rfl
  | true =>
    simp only [increment_arbiterOverlay, if_true]
    cases first <;> rfl

/-- An arbitration: the reports of a cut as on the state before, the arbiter's own update, and the grants sent. -/
theorem takeDemands_eq (s : State) (d : Demands) (rest : List Demands) :
    takeDemands d (s.setFlight { s.flight with demands := rest }) =
      { s.cutReported (s.cutsFor d) (!s.arbiter.cutRun) (s.grantsFor d) with
        arbiter := { s.arbiter with
          budget := effectiveBudget s.params s.arbiter.supplyLow.value, cutRun := s.cutsFor d }
        flight := { s.flight with demands := rest, grants := s.flight.grants ++ [s.grantsFor d] } } := by
  have reported := s.cutReported_arbiterOverlay
    { s.arbiter with budget := effectiveBudget s.params s.arbiter.supplyLow.value, cutRun := s.cutsFor d }
    { s.flight with demands := rest } (s.cutsFor d) (!s.arbiter.cutRun) (s.grantsFor d)
  exact congrArg (fun t : State => t.setFlight { t.flight with grants := t.flight.grants ++ [s.grantsFor d] }) reported

theorem exec_arbitration {s : State} {d : Demands} {rest : List Demands} (front : s.flight.demands = d :: rest) :
    exec .arbitration s = .next (takeDemands d (s.setFlight { s.flight with demands := rest })) := by
  simp only [exec, execArbitration, front]

/-- Settles O27: the grants in the statement's words, in the state that the arbitration leaves. -/
theorem arbitrationGrants : Obligations.ArbitrationGrants := by
  intro s d rest front budget dT dS within gT gS cut counted told
  have grants : s.grantsFor d = { gT := gT, gS := gS, limT := d.limT, limS := d.limS } := by
    rw [State.grantsFor, grantsOf_eq]
    rfl
  have cuts : s.cutsFor d = cut := by
    rw [State.cutsFor, grants]
    exact (Bool.decide_or _ _).symm
  rw [exec_arbitration front, takeDemands_eq, cuts, grants]
  rfl

end Sys2Proof.Machine
end


section
/-! PROOFS. Faults, a detection: past the fault unit's own update, as the whole state that it leaves, and from that what
the statement says of a masked, a recorded and a repeated one. -/

namespace Sys2Proof.Machine

/-! ## Detections -/

/-- An increment does not read the fault unit. -/
theorem increment_setFaults (s : State) (x : FaultUnit) (id : CounterId) :
    increment (s.setFaults x) id = (increment s id).setFaults x := by
  obtain ⟨stats, notices⟩ := increment_congr (s := s.setFaults x) (t := s) id rfl rfl rfl
  apply State.ext_blocks <;> simp [stats, notices]

/-- A notification that is sent for a MAJOR severity alone (08 R140). -/
theorem notifyIfMajor_eq (s : State) (k : FaultKind) (severity : Severity) :
    (if severity = .major then notify s k else s) =
      { s with flight := { s.flight with
          notifications := s.flight.notifications ++ (if severity = .major then [k] else []) } } := by
  split
  · rfl
  · simp

/-- The first-fault pointer after a recorded detection (08 R142). -/
theorem loadPointer_eq (s : State) (k : FaultKind) (r : FaultRecord) :
    loadPointer s k r = s.setFaults { s.faults with
      pointer := if s.faults.pointer = none ∧ r.reportMask = false then some { kind := k, time := s.notices.now }
        else s.faults.pointer } := by
  have due : (s.faults.pointer.isNone && !r.reportMask) = true ↔ s.faults.pointer = none ∧ r.reportMask = false := by
    simp
  unfold loadPointer
  by_cases h : s.faults.pointer = none ∧ r.reportMask = false
  · rw [if_pos (due.mpr h), if_pos h]
  · rw [if_neg (mt due.mp h), if_neg h]
    rfl

/-- The records held once a recorded detection has been counted and, unless its report mask is set, posted (08 R138). -/
def State.recordsAfterDetection (s : State) (k : FaultKind) (r : FaultRecord) : List Notice :=
  let counted := increment s .faultsSet
  if r.reportMask then counted.notices.records else (post counted (.faultSet k r.severity)).notices.records

/-- A recorded detection as the whole state that it leaves (08 R138). -/
theorem recordDetection_eq (s : State) (k : FaultKind) (r : FaultRecord) :
    let table := s.faults.table.set k { r with status := some { severity := r.severity, time := s.notices.now } }
    let records := s.recordsAfterDetection k r
    let attention := table.records.any FaultRecord.wantsAttention
    recordDetection s k r = { s with
      faults := {
        table := table
        pointer := if s.faults.pointer = none ∧ r.reportMask = false then some { kind := k, time := s.notices.now }
          else s.faults.pointer
        majorPresent := table.records.any (FaultRecord.setAs .major)
        minorPresent := table.records.any (FaultRecord.setAs .minor) }
      stats := (increment s .faultsSet).stats
      notices := { s.notices with
        records := records, attention := attention, alert := !records.isEmpty || attention }
      flight := { s.flight with
        notifications := s.flight.notifications ++ (if r.severity = .major then [k] else []) } } := by
  intro table records attention
  have counted := increment_setFaults s { s.faults with table := table } .faultsSet
  unfold recordDetection
  simp only [notifyIfMajor_eq, loadPointer_eq]
  rw [setRecord, counted]
  by_cases masked : r.reportMask = true
  · have held : records = (increment s .faultsSet).notices.records := if_pos masked
    rw [if_pos masked]
    apply State.ext_blocks <;> simp [refreshAttention, refreshSummary, NoticeQueue.refreshAlert, held, attention, table]
  · have held : records = (post (increment s .faultsSet) (.faultSet k r.severity)).notices.records := if_neg masked
    rw [if_neg masked]
    apply State.ext_blocks <;>
      simp [refreshAttention, refreshSummary, NoticeQueue.refreshAlert, held, attention, table, post_notices]

section
variable {s : State} {k : FaultKind}

/-- A kind under its detect mask is ignored. -/
theorem detect_masked (masked : (s.faults.table.get k).detectMask = true) : detect s k = s := if_pos masked

/-- A kind that is not masked is recorded when its status is clear. -/
theorem detect_clear (unmasked : (s.faults.table.get k).detectMask = false)
    (clear : (s.faults.table.get k).status = none) :
    detect s k = recordDetection s k (s.faults.table.get k) := by
  simp only [detect, unmasked, clear, Bool.false_eq_true, if_false]

/-- A kind that is not masked is a repeat when its status is SET (08 R139). -/
theorem detect_repeat (unmasked : (s.faults.table.get k).detectMask = false) {f : FaultSet}
    (set : (s.faults.table.get k).status = some f) :
    detect s k =
      { increment s .faultsSet with flight := { s.flight with
          notifications := s.flight.notifications ++ (if f.severity = .major then [k] else []) } } := by
  simp only [detect, unmasked, set, Bool.false_eq_true, if_false, repeatDetection, notifyIfMajor_eq]
  simp

end

/-- Settles O51: the detect mask first, then the status; a recorded detection is read off the state it leaves. -/
theorem detectionIsRecorded : Obligations.DetectionIsRecorded := by
  intro s k r c
  refine ⟨detect_masked, fun unmasked clear => ?_, fun f unmasked set => detect_repeat unmasked set⟩
  rw [detect_clear unmasked clear, recordDetection_eq]
  exact ⟨_, rfl, rfl, rfl, rfl, rfl, rfl, rfl, rfl, rfl⟩

end Sys2Proof.Machine
end


section
/-! PROOFS. Faults, clearing: what the kinds named by a FAULT_CLEAR leave, in the words of the statements; and from that
FAULT_CLEAR. -/

namespace Sys2Proof.Machine

/-- A row drops a broadcast frame of its kind, unless the kind is one that may be broadcast (11 R171). -/
theorem takeRequest_dropped {α : Type} {s : State} {f : Frame} {rest : List Frame} {kind : Byte} {payload : List Byte}
    (h : s.asked f rest kind payload) (broadcast : f.broadcast = true) (noSetParam : kind ≠ 0x03)
    (noCommand : kind ≠ 0x07) {row : RequestRow} (rowOfKind : ∀ f : Frame, f.kind = kind → f.row = row)
    (parse : List Byte → Option α) (owner : α → State → Answer) :
    takeRequest row (serve parse owner) s = s.dropped rest := by
  obtain ⟨front, rfl, -⟩ := h
  rw [takeRequest_own _ _ front (rowOfKind f rfl)]
  exact serve_dropped parse owner f _ broadcast noSetParam noCommand

/-! ## Clearing -/

theorem mem_kindsNamed_iff (bits : BitVec 16) (k : FaultKind) :
    k ∈ kindsNamed bits ↔ bits.getLsbD k.id.toNat = true := by
  have known : k ∈ FaultKind.list := by cases k <;> decide
  simp [kindsNamed, known]

theorem tripChannel_isNone_eq (k : FaultKind) :
    k.tripChannel.isNone = (decide (k ≠ .tiltDriveTrip) && decide (k ≠ .steerDriveTrip)) := by
  cases k <;> rfl

/-- A status is cleared when its kind is named and may be cleared. -/
theorem State.clears_iff (s : State) (bits : BitVec 16) (k : FaultKind) :
    s.clears bits k = true ↔ k ∈ kindsNamed bits ∧ willClear s k = true := by
  rw [mem_kindsNamed_iff, State.clears, willClear, mayClear, tripChannel_isNone_eq, Bool.and_assoc,
    Bool.and_eq_true_iff]

/-- The kinds that a FAULT_CLEAR names, cleared one after another (08 R146, R147; 07 R128). -/
theorem clearNamed_spec (s : State) (bits : BitVec 16) :
    let u := (kindsNamed bits).foldl clearKind s
    (∀ k, u.faults.table.get k =
      if s.clears bits k then { s.faults.table.get k with status := none } else s.faults.table.get k) ∧
    u.faults.pointer = s.faults.pointer.filter (fun p => !s.clears bits p.kind) ∧
    u.tilt =
      (if s.clears bits .tiltDriveTrip && decide (s.tilt.state = .tripped) then
        { s.tilt with state := .off, applied := 0 }
      else s.tilt) ∧
    u.steer =
      (if s.clears bits .steerDriveTrip && decide (s.steer.state = .tripped) then
        { s.steer with state := if s.ctl.regime = .off then .off else .on, applied := 0 }
      else s.steer) := by
  have named (k : FaultKind) : (decide (k ∈ kindsNamed bits) && willClear s k) = s.clears bits k :=
    Bool.eq_iff_iff.mpr (by rw [State.clears_iff, Bool.and_eq_true_iff, decide_eq_true_iff])
  obtain ⟨table, pointer, tilt, steer, -⟩ :=
    clearKinds_spec (kindsNamed bits) s (FaultKind.list_nodup.sublist List.filter_sublist)
  refine ⟨fun k => (table k).trans (choice_congr (s.clears_iff bits k).symm rfl rfl), ?_, ?_, ?_⟩
  · simpa only [named] using pointer
  · refine tilt.trans (choice_congr ?_ rfl rfl)
    rw [Bool.and_eq_true_iff, decide_eq_true_iff, State.clears_iff, and_assoc]
  · refine steer.trans (choice_congr ?_ rfl rfl)
    rw [Bool.and_eq_true_iff, decide_eq_true_iff, State.clears_iff, and_assoc]

/-! ## FAULT_CLEAR -/

theorem takeFaultClear_refused {bits : BitVec 16} (noKind : bits.getLsbD 14 = true ∨ bits.getLsbD 15 = true)
    (s : State) : takeFaultClear bits s = refuse s .refusedRange :=
  if_pos (Bool.or_eq_true_iff.mpr noKind)

/-- A FAULT_CLEAR accepted, as the whole state that it leaves and the statuses that it reports still set. -/
theorem takeFaultClear_accepted {bits : BitVec 16} (no14 : bits.getLsbD 14 = false) (no15 : bits.getLsbD 15 = false)
    (s : State) :
    let u := (kindsNamed bits).foldl clearKind s
    let attention := u.faults.table.records.any FaultRecord.wantsAttention
    takeFaultClear bits s =
      { state := { s with
          faults := {
            table := u.faults.table
            pointer := u.faults.pointer
            majorPresent := u.faults.table.records.any (FaultRecord.setAs .major)
            minorPresent := u.faults.table.records.any (FaultRecord.setAs .minor) }
          tilt := u.tilt, steer := u.steer
          notices := { s.notices with
            attention := attention, alert := !s.notices.records.isEmpty || attention } }
        status := .ok
        payload := be16 (bitmap (kindsById.map fun k =>
          bits.getLsbD k.id.toNat && (u.faults.table.get k).status.isSome)) } := by
  intro u attention
  have left : refreshAttention (refreshSummary u) = { s with
      faults := {
        table := u.faults.table
        pointer := u.faults.pointer
        majorPresent := u.faults.table.records.any (FaultRecord.setAs .major)
        minorPresent := u.faults.table.records.any (FaultRecord.setAs .minor) }
      tilt := u.tilt, steer := u.steer
      notices := { s.notices with attention := attention, alert := !s.notices.records.isEmpty || attention } } := by
    apply State.ext_blocks <;> simp [u, attention, refreshAttention, refreshSummary, NoticeQueue.refreshAlert]
  have refused : ¬ (bits.getLsbD 14 || bits.getLsbD 15) = true := by rw [no14, no15]; decide
  rw [takeFaultClear, if_neg refused]
  simp only [u, left]
  rfl

section
variable {s : State} {f : Frame} {rest : List Frame} {hi lo : Byte}

theorem exec_faultClear (h : s.asked f rest 0x09 [hi, lo]) (addressed : f.broadcast = false) :
    exec .faultClear s = .next ((takeFaultClear (hi ++ lo) (s.dropped rest)).replyTo f) :=
  congrArg _ (takeRequest_served h addressed (row := .faultClear) (parse := parseBitmap)
    (fun f kind => by simp [Frame.row, kind]) rfl takeFaultClear)

theorem exec_faultClear_broadcast (h : s.asked f rest 0x09 [hi, lo]) (broadcast : f.broadcast = true) :
    exec .faultClear s = .next (s.dropped rest) :=
  congrArg _ (takeRequest_dropped h broadcast (by decide) (by decide) (fun f kind => by simp [Frame.row, kind])
    parseBitmap takeFaultClear)

end

/-- Settles O43: by broadcast, refused, and accepted with the kinds named cleared on the state whose frame is taken. -/
theorem faultClearClears : Obligations.FaultClearClears := by
  intro s f rest hi lo asked bits
  refine ⟨exec_faultClear_broadcast asked, fun addressed noKind => ?_, fun addressed no14 no15 => ?_⟩
  · rw [exec_faultClear asked addressed, takeFaultClear_refused noKind, refusedRange_replyTo]
  · obtain ⟨table, pointer, tilt, steer⟩ := clearNamed_spec (s.dropped rest) bits
    rw [exec_faultClear asked addressed, takeFaultClear_accepted no14 no15, Answer.replyTo, putReply_eq]
    exact ⟨_, rfl, table, pointer, rfl, rfl, tilt, steer, rfl, rfl, rfl⟩

end Sys2Proof.Machine
end


section
/-! PROOFS. Faults, configuration: the record of a kind after a FAULT_CONFIG in the words of the statement, and the bytes
that report it; and from that FAULT_CONFIG. -/

namespace Sys2Proof.Machine

/-! ## The bytes of a setting -/

theorem byte_toNat_eq_one_iff (b : Byte) : b.toNat = 1 ↔ b = 1 := BitVec.toNat_inj (x := b) (y := 1)

theorem byte_eq_zero_of_le_one {b : Byte} (h : b.toNat ≤ 1) (other : b ≠ 1) : b = 0 := by
  have : b.toNat ≠ 1 := mt (byte_toNat_eq_one_iff b).mp other
  exact BitVec.eq_of_toNat_eq (by change b.toNat = 0; omega)

/-- A flag travels as the byte 1 or 0. -/
theorem be8_bit (b : Bool) : be8 (bit b) = [if b then 1 else 0] := by cases b <;> rfl

/-- A severity travels as the byte 1 or 0. -/
theorem be8_severity (major : Bool) :
    be8 (if major then Severity.major else Severity.minor).code = [if major then 1 else 0] := by cases major <;> rfl

/-- A setting within its range is the byte of the flag it sets. -/
theorem byte_of_flag {b : Byte} (h : b.toNat ≤ 1) : (if decide (b = 1) then (1 : Byte) else 0) = b := by
  by_cases set : b = 1
  · simp [set]
  · simp [byte_eq_zero_of_le_one h set]

/-! ## The record -/

/-- A record after a FAULT_CONFIG: a fixed kind is MAJOR and never masked from detection (08 R144). -/
theorem FaultRecord.configure_eq (r : FaultRecord) (k : FaultKind) (sev : Byte) (det rep : Bool) :
    r.configure k (if sev = 1 then .major else .minor) det rep =
      { r with
        severity := if decide (k ∈ fixedKinds) || decide (sev = 1) then .major else .minor
        detectMask := !decide (k ∈ fixedKinds) && det
        reportMask := rep } := by
  simp only [FaultRecord.configure, FaultKind.fixed_eq]
  by_cases fixed : k ∈ fixedKinds <;> simp [fixed]

/-- Another severity or the detect mask was asked of a fixed kind. -/
theorem othersAsked_eq {sev : Byte} (h : sev.toNat ≤ 1) :
    decide ((if sev = 1 then Severity.major else .minor) = .minor) = decide (sev = 0) := by
  by_cases major : sev = 1
  · simp [major]
  · simp [byte_eq_zero_of_le_one h major]

/-! ## FAULT_CONFIG -/

theorem takeFaultConfig_refused {kind sev det rep : Byte}
    (beyond : 13 < kind.toNat ∨ 1 < sev.toNat ∨ 1 < det.toNat ∨ 1 < rep.toNat) (s : State) :
    takeFaultConfig kind sev det rep s = refuse s .refusedRange := by
  unfold takeFaultConfig
  split
  case h_1 => rfl
  case h_2 k known =>
    refine if_pos (beyond.resolve_left fun noKind => ?_)
    rw [FaultKind.byId_beyond noKind] at known
    cases known

/-- A FAULT_CONFIG accepted, as the whole state that it leaves and its reply (08 R143, R144). -/
theorem takeFaultConfig_accepted {kind sev det rep : Byte} {k : FaultKind} (selected : kind.toNat = k.id.toNat)
    (hsev : sev.toNat ≤ 1) (hdet : det.toNat ≤ 1) (hrep : rep.toNat ≤ 1) (s : State) :
    let fixed := decide (k ∈ fixedKinds)
    let major := fixed || decide (sev = 1)
    let masked := !fixed && decide (det = 1)
    let table := s.faults.table.set k
      { s.faults.table.get k with
        severity := if major then .major else .minor, detectMask := masked, reportMask := decide (rep = 1) }
    let attention := table.records.any FaultRecord.wantsAttention
    takeFaultConfig kind sev det rep s =
      { state := { s with
          faults := { s.faults with table := table }
          notices := { s.notices with
            attention := attention, alert := !s.notices.records.isEmpty || attention } }
        status := if fixed && (decide (sev = 0) || decide (det = 1)) then .clamped else .ok
        payload := [kind, if major then 1 else 0, if masked then 1 else 0, rep] } := by
  intro fixed major masked table attention
  have inRange : ¬ (1 < sev.toNat ∨ 1 < det.toNat ∨ 1 < rep.toNat) := by omega
  unfold takeFaultConfig
  rw [selected, k.byId_id]
  simp only [if_neg inRange, FaultRecord.configure_eq, othersAsked_eq hsev, FaultKind.fixed_eq, configBytes,
    FaultKind.be8_id selected, be8_severity, be8_bit, byte_toNat_eq_one_iff, byte_of_flag hrep]
  rfl

section
variable {s : State} {f : Frame} {rest : List Frame} {kind sev det rep : Byte}

theorem exec_faultConfig (h : s.asked f rest 0x0A [kind, sev, det, rep]) (addressed : f.broadcast = false) :
    exec .faultConfig s = .next ((takeFaultConfig kind sev det rep (s.dropped rest)).replyTo f) :=
  congrArg _ (takeRequest_served h addressed (row := .faultConfig) (parse := parse4)
    (fun f kind => by simp [Frame.row, kind]) rfl fun a s => takeFaultConfig a.1 a.2.1 a.2.2.1 a.2.2.2 s)

theorem exec_faultConfig_broadcast (h : s.asked f rest 0x0A [kind, sev, det, rep]) (broadcast : f.broadcast = true) :
    exec .faultConfig s = .next (s.dropped rest) :=
  congrArg _ (takeRequest_dropped h broadcast (by decide) (by decide) (fun f kind => by simp [Frame.row, kind])
    parse4 fun a s => takeFaultConfig a.1 a.2.1 a.2.2.1 a.2.2.2 s)

end

/-- Settles O44: by broadcast, refused, and accepted, where the reply carries its payload under either status. -/
theorem faultConfigWrites : Obligations.FaultConfigWrites := by
  intro s f rest kind sev det rep asked
  refine ⟨exec_faultConfig_broadcast asked, fun addressed beyond => ?_,
    fun k addressed selected hsev hdet hrep => ?_⟩
  · rw [exec_faultConfig asked addressed, takeFaultConfig_refused beyond, refusedRange_replyTo]
  · intro fixed major masked table attention
    rw [exec_faultConfig asked addressed, takeFaultConfig_accepted selected hsev hdet hrep, Answer.replyTo, putReply_eq]
    have carried : (if fixed && (decide (sev = 0) || decide (det = 1)) then Status.clamped else .ok).carriesPayload =
        true := by
      split <;> rfl
    rw [if_pos carried]
    rfl

end Sys2Proof.Machine
end


section
/-! PROOFS. Faults and notices, the laws: what the shared operations and the requests of the fault unit make of them; the
events that reach both blocks by reports alone; and from that the laws that every step keeps. -/

namespace Sys2Proof.Machine

/-! ## The records held -/

/-- At most 16 records are held, and none has a dropped count above 255 (09 R158). -/
structure NoticesFit (records : List Notice) : Prop where
  size : records.length ≤ 16
  dropped : ∀ n ∈ records, n.dropped ≤ 255

theorem State.NoticeLaw.fit {s : State} (h : s.NoticeLaw) : NoticesFit s.notices.records := ⟨h.size, h.dropped⟩

theorem NoticesFit.drop {records : List Notice} (h : NoticesFit records) (n : Nat) : NoticesFit (records.drop n) where
  size := Nat.le_trans (List.drop_sublist n records).length_le h.size
  dropped m mem := h.dropped m (List.mem_of_mem_drop mem)

/-- A post adds a record while there is room, and stops the newest dropped count at 255 when there is none. -/
theorem NoticesFit.store {records : List Notice} (h : NoticesFit records) (now : Stamp) (c : NoticeContent) :
    NoticesFit (storeNotice now records c) := by
  unfold storeNotice
  split
  case isTrue room =>
    refine ⟨by rw [List.length_append]; exact room, fun n mem => ?_⟩
    obtain held | new := List.mem_append.mp mem
    · exact h.dropped n held
    · obtain rfl := List.mem_singleton.mp new
      exact Nat.zero_le 255
  case isFalse full =>
    obtain rfl | ⟨older, newest, rfl⟩ := List.eq_nil_or_concat records
    · exact absurd (by decide) full
    · simp only [List.concat_eq_append] at h ⊢
      rw [dropOnNewest_append]
      refine ⟨by simpa using h.size, fun n mem => ?_⟩
      obtain held | counted := List.mem_append.mp mem
      · exact h.dropped n (List.mem_append_left _ held)
      · obtain rfl := List.mem_singleton.mp counted
        exact Nat.min_le_right _ 255

/-! ## The two laws on a state just brought up to date -/

/-- The notice law holds once the attention value and ALERT have been brought up to date (09 R160). -/
theorem noticeLaw_of_refreshed {s : State} (fit : NoticesFit s.notices.records)
    (attention : s.notices.attention = s.faults.table.records.any FaultRecord.wantsAttention)
    (alert : s.notices.alert = (!s.notices.records.isEmpty || s.notices.attention)) : s.NoticeLaw where
  size := fit.size
  dropped := fit.dropped
  attention := attention
  alert := by simp [alert]

/-- The fault law reads the fault unit alone. -/
theorem State.FaultLaw.of_faults_eq {s t : State} (h : s.FaultLaw) (same : t.faults = s.faults) : t.FaultLaw :=
  ⟨same ▸ h.major, same ▸ h.minor, same ▸ h.pointer⟩

/-- A record written with the status it had changes no test of the statuses (08 R141). -/
theorem FaultTable.any_set {t : FaultTable} {k : FaultKind} {r : FaultRecord} {test : FaultRecord → Bool}
    (same : test r = test (t.get k)) : (t.set k r).records.any test = t.records.any test := by
  have each (j : FaultKind) : test ((t.set k r).get j) = test (t.get j) := by
    rw [FaultTable.get_set]
    split
    case isTrue written => rw [written, same]
    case isFalse => rfl
  simp only [FaultTable.records, List.any_map, Function.comp_def, each]

/-! ## What passes the laws on -/

/-- The fault law and the notice law pass from one state to the other. -/
structure State.PassesReportLaws (s t : State) : Prop where
  faults : s.FaultLaw → t.FaultLaw
  notices : s.NoticeLaw → t.NoticeLaw

theorem State.PassesReportLaws.refl (s : State) : s.PassesReportLaws s := ⟨id, id⟩

theorem State.PassesReportLaws.trans {s t u : State} (first : s.PassesReportLaws t) (second : t.PassesReportLaws u) :
    s.PassesReportLaws u :=
  ⟨fun h => second.faults (first.faults h), fun h => second.notices (first.notices h)⟩

section
variable (s : State)

/-! ### The shared operations -/

theorem post_passesReportLaws (c : NoticeContent) : s.PassesReportLaws (post s c) where
  faults h := h.of_faults_eq rfl
  notices h := noticeLaw_of_refreshed (h.fit.store s.notices.now c) h.attention rfl

/-- An increment writes the counters and posts. -/
theorem increment_passesReportLaws (id : CounterId) : s.PassesReportLaws (increment s id) := by
  have counted (x : CounterTable) : s.PassesReportLaws (s.setStats x) :=
    ⟨fun h => h.of_faults_eq rfl, fun h => ⟨h.size, h.dropped, h.attention, h.alert⟩⟩
  unfold increment
  dsimp only
  split <;> split
  · exact ((counted _).trans (post_passesReportLaws _ _)).trans (post_passesReportLaws _ _)
  · exact (counted _).trans (post_passesReportLaws _ _)
  · exact (counted _).trans (post_passesReportLaws _ _)
  · exact counted _

/-- A recorded detection loads an invalid pointer with its own kind; a valid one names another kind, since the status
recorded was clear (08 R142). -/
theorem recordDetection_faultLaw {k : FaultKind} (clear : (s.faults.table.get k).status = none)
    (h : s.FaultLaw) : (recordDetection s k (s.faults.table.get k)).FaultLaw := by
  rw [recordDetection_eq]
  refine ⟨rfl, rfl, fun p valid => ?_⟩
  dsimp only at valid ⊢
  split at valid
  case isTrue =>
    cases valid
    exact ⟨_, by rw [FaultTable.get_set_self], rfl⟩
  case isFalse =>
    obtain ⟨f, set, time⟩ := h.pointer p valid
    have other : p.kind ≠ k := fun same => by
      rw [same, clear] at set
      cases set
    exact ⟨f, by rwa [FaultTable.get_set_of_ne _ _ _ _ other], time⟩

theorem recordDetection_noticeLaw (k : FaultKind) (r : FaultRecord) (h : s.NoticeLaw) :
    (recordDetection s k r).NoticeLaw := by
  have counted := increment_passesReportLaws s .faultsSet
  rw [recordDetection_eq]
  refine noticeLaw_of_refreshed ?_ rfl rfl
  change NoticesFit (s.recordsAfterDetection k r)
  unfold State.recordsAfterDetection
  dsimp only
  split
  · exact (counted.notices h).fit
  · exact ((counted.trans (post_passesReportLaws _ _)).notices h).fit

theorem detect_passesReportLaws (k : FaultKind) : s.PassesReportLaws (detect s k) := by
  by_cases masked : (s.faults.table.get k).detectMask = true
  · rw [detect_masked masked]
    exact .refl s
  · have unmasked := eq_false_of_ne_true masked
    cases status : (s.faults.table.get k).status with
    | none =>
      rw [detect_clear unmasked status]
      exact ⟨recordDetection_faultLaw s status, recordDetection_noticeLaw s k _⟩
    | some f =>
      rw [detect_repeat unmasked status]
      refine (increment_passesReportLaws s .faultsSet).trans ⟨fun h => h.of_faults_eq rfl, fun h => ?_⟩
      exact ⟨h.size, h.dropped, h.attention, h.alert⟩

end

/-! ### Reports made on a state to which the laws have passed -/

section
variable {s₀ s t : State}

/-- An update of other blocks. -/
theorem State.PassesReportLaws.frame (hs : s₀.PassesReportLaws s)
    (h : t.faults = s.faults ∧ t.notices.records = s.notices.records ∧ t.notices.attention = s.notices.attention ∧
      t.notices.alert = s.notices.alert) : s₀.PassesReportLaws t := by
  obtain ⟨faults, records, attention, alert⟩ := h
  refine hs.trans ⟨fun law => law.of_faults_eq faults, fun law => ⟨?_, ?_, ?_, ?_⟩⟩
  · exact records ▸ law.size
  · exact records ▸ law.dropped
  · rw [attention, faults, law.attention]
  · rw [alert, records, attention, law.alert]

theorem State.PassesReportLaws.post (hs : s₀.PassesReportLaws s) (c : NoticeContent) :
    s₀.PassesReportLaws (post s c) := hs.trans (post_passesReportLaws s c)

theorem State.PassesReportLaws.increment (hs : s₀.PassesReportLaws s) (id : CounterId) :
    s₀.PassesReportLaws (increment s id) := hs.trans (increment_passesReportLaws s id)

theorem State.PassesReportLaws.detect (hs : s₀.PassesReportLaws s) (k : FaultKind) :
    s₀.PassesReportLaws (detect s k) := hs.trans (detect_passesReportLaws s k)

theorem State.PassesReportLaws.ite {u : State} {p : Prop} [Decidable p] (yes : s₀.PassesReportLaws t)
    (no : s₀.PassesReportLaws u) : s₀.PassesReportLaws (if p then t else u) := by
  split
  · exact yes
  · exact no

theorem State.PassesReportLaws.detectIf (hs : s₀.PassesReportLaws s) (p : Prop) [Decidable p] (k : FaultKind) :
    s₀.PassesReportLaws (if p then Machine.detect s k else s) := (hs.detect k).ite hs

theorem State.PassesReportLaws.countedIf (hs : s₀.PassesReportLaws s) (p : Prop) [Decidable p] (id : CounterId) :
    s₀.PassesReportLaws (s.countedIf p id) := (hs.increment id).ite hs

end

section
variable (s : State)

/-! ### Resets -/

/-- A warm reset keeps the fault unit and empties the queue (09 R161). -/
theorem warmReset_passesReportLaws : s.PassesReportLaws (warmReset s) := by
  have blocks : s.PassesReportLaws (warmBlocks s) :=
    ⟨fun h => h.of_faults_eq rfl, fun h => noticeLaw_of_refreshed ⟨Nat.zero_le 16, nofun⟩ h.attention rfl⟩
  unfold warmReset
  split
  · exact blocks
  · exact blocks.post _

theorem coldStart_passesReportLaws (stationStraps : BitVec 3) (rateStraps : BitVec 2) (q : List Instr) :
    s.PassesReportLaws { State.coldStart stationStraps rateStraps with pending := q } := by
  obtain ⟨-, -, -, -, -, faults, ⟨size, dropped, attention, alert⟩, -⟩ := resetIsLawful
  exact ⟨fun _ => faults.of_faults_eq rfl, fun _ => ⟨size, dropped, attention, alert⟩⟩

/-! ### The requests of the fault unit and the notice queue -/

/-- A pointer that stays valid names a kind that is not cleared (08 R146). -/
theorem takeFaultClear_passesReportLaws (bits : BitVec 16) : s.PassesReportLaws (takeFaultClear bits s).state := by
  by_cases noKind : bits.getLsbD 14 = true ∨ bits.getLsbD 15 = true
  · rw [takeFaultClear_refused noKind]
    exact .refl s
  · obtain ⟨no14, no15⟩ := not_or.mp noKind
    obtain ⟨table, pointer, -, -⟩ := clearNamed_spec s bits
    rw [takeFaultClear_accepted (eq_false_of_ne_true no14) (eq_false_of_ne_true no15)]
    refine ⟨fun h => ⟨rfl, rfl, fun p valid => ?_⟩, fun h => noticeLaw_of_refreshed h.fit rfl rfl⟩
    obtain ⟨held, kept⟩ := Option.filter_eq_some_iff.mp (pointer.symm.trans valid)
    obtain ⟨f, set, time⟩ := h.pointer p held
    refine ⟨f, ?_, time⟩
    dsimp only
    rw [table, if_neg (by simpa using kept), set]

/-- A FAULT_CONFIG writes no status (08 R143). -/
theorem FaultRecord.configure_status (r : FaultRecord) (k : FaultKind) (severity : Severity)
    (detectMask reportMask : Bool) : (r.configure k severity detectMask reportMask).status = r.status := by
  unfold FaultRecord.configure
  split <;> rfl

/-- A record written with the status it had, and the attention value with it. -/
theorem setRecord_passesReportLaws {k : FaultKind} {r : FaultRecord} (same : r.status = (s.faults.table.get k).status) :
    s.PassesReportLaws (refreshAttention (setRecord s k r)) where
  faults h := by
    have summary (severity : Severity) : (s.faults.table.set k r).records.any (FaultRecord.setAs severity) =
        s.faults.table.records.any (FaultRecord.setAs severity) :=
      FaultTable.any_set (by simp only [FaultRecord.setAs, same])
    refine ⟨h.major.trans (summary .major).symm, h.minor.trans (summary .minor).symm, fun p valid => ?_⟩
    obtain ⟨f, set, time⟩ := h.pointer p valid
    refine ⟨f, ?_, time⟩
    change ((s.faults.table.set k r).get p.kind).status = some f
    rw [FaultTable.get_set]
    split
    case isTrue written => rw [same, ← written, set]
    case isFalse => exact set
  notices h := noticeLaw_of_refreshed h.fit rfl rfl

theorem takeFaultConfig_passesReportLaws (kind sev det rep : Byte) :
    s.PassesReportLaws (takeFaultConfig kind sev det rep s).state := by
  unfold takeFaultConfig
  split
  case h_1 => exact .refl s
  case h_2 =>
    split
    case isTrue => exact .refl s
    case isFalse => exact setRecord_passesReportLaws s (FaultRecord.configure_status _ _ _ _ _)

theorem takeEventRead_passesReportLaws (count : Byte) : s.PassesReportLaws (takeEventRead count s).state where
  faults h := h.of_faults_eq rfl
  notices h := noticeLaw_of_refreshed (h.fit.drop _) h.attention rfl

/-! ### The events of the other blocks -/

theorem execAcquisitionPeriodStart_passesReportLaws {t : State} (h : execAcquisitionPeriodStart s = .next t) :
    s.PassesReportLaws t := by
  have settled (u : State) : u.PassesReportLaws (settlePeriod u) := by
    have counted (q : Sequencer) := ((State.PassesReportLaws.refl u).increment .missedPeriods).frame
      (t := (increment u .missedPeriods).setAcq q) ⟨rfl, rfl, rfl, rfl⟩
    unfold settlePeriod
    dsimp only
    split
    · split
      · exact (counted _).detectIf _ _
      · exact (State.PassesReportLaws.refl u).increment _
    · exact .refl u
  have abandoned := (State.PassesReportLaws.refl s).frame (t := s.setAcq { s.acq with inFlight := none })
    ⟨rfl, rfl, rfl, rfl⟩
  cases h
  exact (abandoned.ite (abandoned.trans (settled _))).frame ⟨rfl, rfl, rfl, rfl⟩

theorem execWheelPulse_passesReportLaws {elapsed : Nat} {t : State} (h : execWheelPulse elapsed s = .next t) :
    s.PassesReportLaws t := by
  have wheel (u : WheelUnit) := (State.PassesReportLaws.refl s).frame (t := s.setWheel u) ⟨rfl, rfl, rfl, rfl⟩
  have glitch (u : State) : u.PassesReportLaws (takeGlitch u) :=
    have counted (w : WheelUnit) := ((State.PassesReportLaws.refl u).increment .speedGlitches).frame
      (t := (increment u .speedGlitches).setWheel w) ⟨rfl, rfl, rfl, rfl⟩
    (counted _).ite ((counted _).detect _)
  unfold execWheelPulse at h
  dsimp only at h
  split at h
  case h_1 =>
    split at h <;> cases h
    · exact (wheel _).trans (glitch _)
    · exact wheel _
  case h_2 =>
    cases h
    exact wheel _

theorem takeSnapshotAtEstimator_passesReportLaws (n : Snapshot) :
    s.PassesReportLaws (takeSnapshotAtEstimator n s) := by
  have reported (before after : Estimator) {u : State} (hu : s.PassesReportLaws u) :
      s.PassesReportLaws (reportSnapshot before after u) := by
    have bar := hu.detectIf (rises before.railBar after.railBar = true) .barRange
    have samples := bar.countedIf (after.meas = .held) .disagreeSamples
    have lean := (samples.detectIf (rises before.disagree.value after.disagree.value = true) .leanDisagree).detectIf
      ((rises before.railA after.railA || rises before.railB after.railB) = true) .leanRange
    have stand := lean.ite (p := before.stand.value = after.stand.value) (lean.post (.standChange after.stand.value))
    exact stand.detectIf (rises before.excess.value after.excess.value = true) .leanExcess
  have taken := (State.PassesReportLaws.refl s).frame (t := s.setEst (s.est.next s.params n)) ⟨rfl, rfl, rfl, rfl⟩
  exact (reported s.est (s.est.next s.params n) taken).frame ⟨rfl, rfl, rfl, rfl⟩

theorem takeSnapshotAtClamp_passesReportLaws (n : Snapshot) : s.PassesReportLaws (takeSnapshotAtClamp n s) := by
  have sent (c : ClampCtl) (f : Flight) := (State.PassesReportLaws.refl s).frame (t := (s.setClamp c).setFlight f)
    ⟨rfl, rfl, rfl, rfl⟩
  unfold takeSnapshotAtClamp
  dsimp only
  rw [sendClassChange_eq]
  exact (sent _ _).detectIf _ _

theorem takeSnapshotAtTilt_passesReportLaws (n : Snapshot) : s.PassesReportLaws (takeSnapshotAtTilt n s) := by
  have tilt (u : State) (c : DriveChannel) := (State.PassesReportLaws.refl u).frame (t := u.setTilt c)
    ⟨rfl, rfl, rfl, rfl⟩
  have sampled := tilt s (s.tilt.next n.results.iTilt)
  exact (sampled.trans ((tilt _ _).detect .tiltDriveTrip)).ite sampled

theorem takeSnapshotAtSteer_passesReportLaws (n : Snapshot) : s.PassesReportLaws (takeSnapshotAtSteer n s) := by
  have steer (u : State) (c : DriveChannel) := (State.PassesReportLaws.refl u).frame (t := u.setSteer c)
    ⟨rfl, rfl, rfl, rfl⟩
  have tripped (u : State) : u.PassesReportLaws (tripSteer u) := by
    unfold tripSteer
    split
    · exact .refl u
    · split
      · exact (steer u _).detect _
      · exact detect_passesReportLaws u _
  have sampled := steer s (s.steer.next n.results.iSteer)
  exact (sampled.trans (tripped _)).ite sampled

theorem takeSnapshotAtArbiter_passesReportLaws (n : Snapshot) : s.PassesReportLaws (takeSnapshotAtArbiter n s) :=
  have arbiter := (State.PassesReportLaws.refl s).frame (t := s.setArbiter (s.arbiter.next s.params n))
    ⟨rfl, rfl, rfl, rfl⟩
  (arbiter.detectIf _ .supplyLow).detectIf _ .overtemp

theorem takeDecision_passesReportLaws (d : Decision) : s.PassesReportLaws (takeDecision d s) := by
  have start := State.PassesReportLaws.refl s
  have formed : s.PassesReportLaws (formTarget s d) := by
    unfold formTarget
    split
    case h_1 =>
      rw [lean_eq]
      exact ((start.countedIf _ _).countedIf _ _).frame ⟨rfl, rfl, rfl, rfl⟩
    case h_2 =>
      rw [moveToward_eq]
      exact (start.countedIf _ _).frame ⟨rfl, rfl, rfl, rfl⟩
    case h_3 => exact start.frame ⟨rfl, rfl, rfl, rfl⟩
  exact formed.frame ⟨rfl, rfl, rfl, rfl⟩

theorem takeDemands_passesReportLaws (d : Demands) (rest : List Demands) :
    s.PassesReportLaws (takeDemands d (s.setFlight { s.flight with demands := rest })) := by
  have reported (cut first : Bool) (g : Grants) : s.PassesReportLaws (s.cutReported cut first g) :=
    have counted := (State.PassesReportLaws.refl s).countedIf (cut = true) .budgetCutPeriods
    (counted.post _).ite counted
  rw [takeDemands_eq]
  exact (reported _ _ _).frame ⟨rfl, rfl, rfl, rfl⟩

theorem execGapTimerExpiry_passesReportLaws {elapsed : Nat} {t : State} (h : execGapTimerExpiry elapsed s = .next t) :
    s.PassesReportLaws t := by
  have line (l : StationLine) := (State.PassesReportLaws.refl s).frame (t := s.setLine l) ⟨rfl, rfl, rfl, rfl⟩
  unfold execGapTimerExpiry at h
  split at h <;> cases h
  · exact (line _).increment .framesBad
  · exact .refl s

end

/-! ## The whole -/

/-- The parts of which the regime controller's events are made pass the laws on. -/
theorem regimeParts_passesReportLaws (s₀ : State) : RegimeParts s₀.PassesReportLaws where
  ctl _ _ hs _ _ := hs.frame ⟨rfl, rfl, rfl, rfl⟩
  told _ _ hs := hs.frame ⟨rfl, rfl, rfl, rfl⟩
  clamp _ _ hs := hs.frame ⟨rfl, rfl, rfl, rfl⟩
  flight _ _ hs := hs.frame ⟨rfl, rfl, rfl, rfl⟩
  post _ c hs := hs.post c
  increment _ id hs := hs.increment id
  detect _ k hs := hs.detect k

/-- The event of each block passes the laws on: it leaves the two blocks, reaches them by reports alone, or is one of
the requests and resets shown above. -/
theorem keeps_passesReportLaws (s₀ : State) : Keeps s₀.PassesReportLaws := by
  have regime := regimeParts_passesReportLaws s₀
  exact
    { flight := fun _ _ hs _ _ => hs.frame (by simp)
      cold := fun a b q => coldStart_passesReportLaws s₀ a b q
      warm := fun s hs => hs.trans (warmReset_passesReportLaws s)
      tick := fun _ _ hs h => hs.frame (by simp [execTimestampTick_frame h])
      period := fun s _ hs h => hs.trans (execAcquisitionPeriodStart_passesReportLaws s h)
      conversion := fun _ _ _ _ hs h => hs.frame (by simp [execConversionComplete_frame h])
      estimator := fun n s hs => hs.trans (takeSnapshotAtEstimator_passesReportLaws s n)
      clamp := fun n s hs => hs.trans (takeSnapshotAtClamp_passesReportLaws s n)
      tilt := fun n s hs => hs.trans (takeSnapshotAtTilt_passesReportLaws s n)
      steer := fun n s hs => hs.trans (takeSnapshotAtSteer_passesReportLaws s n)
      arbiter := fun n s hs => hs.trans (takeSnapshotAtArbiter_passesReportLaws s n)
      estimate := fun e _ hs => regime.takeEstimate hs e
      classChange := fun c _ hs => regime.takeClassChange hs c
      pullIn := fun _ _ hs h => hs.frame (by simp [execPullInEnd_frame h])
      lockTimer := fun _ _ hs h => hs.frame (by simp [execLockTimerExpiry_frame h])
      lockExpiry := fun r _ hs => regime.takeLockExpiry hs r
      captureExpiry := fun r _ hs => regime.takeCaptureExpiry hs r
      notification := fun k _ hs => regime.takeNotification hs k
      set := fun _ _ hs => hs.frame (by simp)
      apply := fun _ hs => hs.frame (by simp)
      decision := fun d s hs => hs.trans (takeDecision_passesReportLaws s d)
      leanCommand := fun _ _ hs => hs.frame (by simp)
      demands := fun d rest s hs _ => hs.trans (takeDemands_passesReportLaws s d rest)
      grants := fun _ _ _ hs _ => hs.frame (by simp)
      pulse := fun _ s _ hs h => hs.trans (execWheelPulse_passesReportLaws s h)
      evaluation := fun _ _ _ hs h => hs.frame (by simp [execEvaluationTimerExpiry_frame h])
      character := fun c s hs =>
        takeCharacter_ind s₀.PassesReportLaws (fun _ _ hs => hs.frame (by simp)) (fun _ id hs => hs.increment id)
          (fun _ _ hs => hs.frame (by simp)) (fun s hs => hs.trans (warmReset_passesReportLaws s)) c s hs
      gap := fun _ s _ hs h => hs.trans (execGapTimerExpiry_passesReportLaws s h)
      turnaround := fun _ _ _ hs h => hs.frame (by simp [execTurnaroundExpiry_frame h])
      reply := fun _ _ _ _ hs => hs.frame (by simp)
      setParam := fun _ _ _ hs => hs.frame (by simp)
      mapWrite := fun _ _ _ hs => hs.frame (by simp)
      arm := fun _ hs => regime.takeArm hs
      disarm := fun _ hs => regime.takeDisarm hs
      release := fun _ hs => regime.takeRelease hs
      lock := fun _ hs => regime.takeLock hs
      restart := fun f s hs =>
        takeRestart_ind s₀.PassesReportLaws (fun _ _ hs => hs.frame (by simp)) (fun _ _ _ _ hs => hs.frame (by simp))
          (fun s hs => hs.trans (warmReset_passesReportLaws s)) f s hs
      faultClear := fun b s hs => hs.trans (takeFaultClear_passesReportLaws s b)
      faultConfig := fun k x d r s hs => hs.trans (takeFaultConfig_passesReportLaws s k x d r)
      counterRead := fun _ _ _ _ hs => hs.frame (by simp)
      eventRead := fun n s hs => hs.trans (takeEventRead_passesReportLaws s n)
      sampleRead := fun _ _ _ hs => hs.frame (by simp)
      acqConfig := fun _ _ _ hs => hs.frame (by simp)
      acqSingle := fun _ hs => hs.frame (by simp) }

/-- Settles O56: every step passes the fault law and the notice law on. -/
theorem reportingLawsAreKept : Obligations.ReportingLawsAreKept := by
  intro s t h
  have passes := (keeps_passesReportLaws s).step (fun _ _ hs => hs.frame ⟨rfl, rfl, rfl, rfl⟩) (.refl s) h
  exact ⟨passes.faults, passes.notices⟩

end Sys2Proof.Machine
end


section
/-! PROOFS. Counters and notices, the shared operations: a post and an increment, each as the whole state that it
leaves. -/

namespace Sys2Proof.Machine

/-! ## A post -/

/-- A post finds room while fewer than 16 records are held (09 R158). -/
theorem storeNotice_room {records : List Notice} (room : records.length < 16) (now : Stamp) (c : NoticeContent) :
    storeNotice now records c = records ++ [{ content := c, time := now, dropped := 0 }] :=
  if_pos room

/-- A post on a full queue is counted in the newest record (09 R158). -/
theorem storeNotice_full {older : List Notice} (full : 15 ≤ older.length) (newest : Notice) (now : Stamp)
    (c : NoticeContent) :
    storeNotice now (older ++ [newest]) c = older ++ [{ newest with dropped := min (newest.dropped + 1) 255 }] := by
  have noRoom : ¬ (older ++ [newest]).length < Config.noticeSize := by
    rw [List.length_append, Nat.not_lt]
    exact Nat.succ_le_succ full
  rw [storeNotice, if_neg noRoom, dropOnNewest_append]

/-- ALERT is asserted by a post that leaves a record behind it, stored or counted (09 R160). -/
theorem post_eq_of_stored {s : State} {c : NoticeContent} {older : List Notice} {newest : Notice}
    (stored : storeNotice s.notices.now s.notices.records c = older ++ [newest]) :
    post s c = { s with notices := { s.notices with records := older ++ [newest], alert := true } } := by
  have held : (older ++ [newest]).isEmpty = false := by simp
  rw [post, stored, NoticeQueue.refreshAlert]
  simp only [held, Bool.not_false, Bool.true_or]
  rfl

/-- Settles O49: the record stored where there is room, and the newest one counted up where there is none. -/
theorem postStoresOrDrops : Obligations.PostStoresOrDrops := by
  refine fun s c => ⟨fun room => post_eq_of_stored (storeNotice_room room _ c), fun older newest held full => ?_⟩
  exact post_eq_of_stored (held ▸ storeNotice_full full newest _ c)

/-! ## An increment -/

/-- The value after an increment, with the mode asked for at the full value alone (09 R153). -/
theorem countUp_eq (mode : CounterMode) (full value : Nat) :
    countUp mode full value = if value < full then value + 1 else if mode = .wrap then 0 else value := by
  unfold countUp
  cases mode <;> rfl

/-- A mark is reached by an increment that changes the value (09 R153). -/
theorem reaches_eq (mark before after : Nat) :
    reaches mark before after = decide (after ≠ before ∧ after = mark) := (Bool.decide_and _ _).symm

/-- Settles O50: the value by its mode, each mark by the value it is reached with. -/
theorem incrementCounts : Obligations.IncrementCounts := by
  intro s id x full half v atHalf atFull s1 s2
  have value : countUp s.params.counterMode id.fullValue x.value = v := countUp_eq _ _ _
  have toHalf : reaches id.halfValue x.value v = atHalf := reaches_eq _ _ _
  have toFull : reaches id.fullValue x.value v = atFull := reaches_eq _ _ _
  have counted : s.setStats (s.stats.set id (x.increment s.params.counterMode id)) = s1 := by
    simp only [Counter.increment, value, toHalf, toFull]
    rfl
  unfold increment
  dsimp only
  rw [value, toHalf, toFull, counted]

end Sys2Proof.Machine
end


section
/-! PROOFS. Counters and notices, the requests: how the two rows answer, what each owner makes of its request, and from
that COUNTER_READ and EVENT_READ. -/

namespace Sys2Proof.Machine

/-! ## COUNTER_READ -/

theorem CounterId.byId_id (k : CounterId) : CounterId.byId k.id.toNat = some k := by cases k <;> rfl

theorem CounterId.byId_beyond {n : Nat} (beyond : 15 < n) : CounterId.byId n = none :=
  List.getElem?_eq_none beyond

/-- The byte that selects a counter is its id as it travels. -/
theorem CounterId.be8_id {k : CounterId} {selector : Byte} (selected : selector.toNat = k.id.toNat) :
    be8 k.id = [selector] := by
  have same : BitVec.ofInt 8 k.id = selector := BitVec.eq_of_toNat_eq (by rw [selected]; cases k <;> rfl)
  rw [be8, same]

/-- The mask after a mask action, by the byte of the action (09 R155). -/
theorem maskAfter_byte (mask : Bool) (action : Byte) :
    maskAfter mask action.toNat = if action = 1 then true else if action = 2 then false else mask :=
  choice_congr (byte_toNat_eq_one_iff action) rfl
    (choice_congr (BitVec.toNat_inj (x := action) (y := 2)) rfl rfl)

theorem takeCounterRead_refused {id clear action : Byte}
    (beyond : 15 < id.toNat ∨ 1 < clear.toNat ∨ 2 < action.toNat) (s : State) :
    takeCounterRead id clear action s = refuse s .refusedRange := by
  unfold takeCounterRead
  split
  case h_1 => rfl
  case h_2 k known =>
    refine if_pos (beyond.resolve_left fun noCounter => ?_)
    rw [CounterId.byId_beyond noCounter] at known
    cases known

/-- A COUNTER_READ accepted, with what it writes in the counters and its reply (09 R155). -/
theorem takeCounterRead_accepted {id clear action : Byte} {k : CounterId} (selected : id.toNat = k.id.toNat)
    (hclear : clear.toNat ≤ 1) (haction : action.toNat ≤ 2) (s : State) :
    let x := s.stats.get k
    let mask := if action = 1 then true else if action = 2 then false else x.mask
    takeCounterRead id clear action s =
      { state := s.setStats (s.stats.set k
          { value := if clear = 1 then 0 else x.value, half := false, full := false, mask := mask })
        status := .ok
        payload := [id, if k.wide then 32 else 16] ++ be32 x.value ++ be8 (bitmap [x.half, x.full, mask]) } := by
  intro x mask
  have inRange : ¬ (1 < clear.toNat ∨ 2 < action.toNat) := by omega
  have width : be8 (if k.wide then 32 else 16) = [if k.wide then 32 else 16] := by cases k.wide <;> rfl
  unfold takeCounterRead
  rw [selected, k.byId_id]
  simp only [if_neg inRange, Counter.afterRead, maskAfter_byte, CounterId.be8_id selected, width,
    decide_eq_true_eq, byte_toNat_eq_one_iff]
  rfl

section
variable {s : State} {f : Frame} {rest : List Frame} {id clear action : Byte}

theorem exec_counterRead (h : s.asked f rest 0x0B [id, clear, action]) (addressed : f.broadcast = false) :
    exec .counterRead s = .next ((takeCounterRead id clear action (s.dropped rest)).replyTo f) :=
  congrArg _ (takeRequest_served h addressed (row := .counterRead) (parse := parse3)
    (fun f kind => by simp [Frame.row, kind]) rfl fun a s => takeCounterRead a.1 a.2.1 a.2.2 s)

theorem exec_counterRead_broadcast (h : s.asked f rest 0x0B [id, clear, action]) (broadcast : f.broadcast = true) :
    exec .counterRead s = .next (s.dropped rest) :=
  congrArg _ (takeRequest_dropped h broadcast (by decide) (by decide) (fun f kind => by simp [Frame.row, kind])
    parse3 fun a s => takeCounterRead a.1 a.2.1 a.2.2 s)

end

/-- A request accepted, with what it writes in the counters. -/
theorem accepted_setStats_replyTo (s : State) (x : CounterTable) (f : Frame) (rest : List Frame)
    (payload : List Byte) :
    Answer.replyTo { state := (s.dropped rest).setStats x, status := .ok, payload := payload } f =
      { s.replied f rest .ok payload with stats := x } :=
  putReply_eq _ f .ok payload

/-- Settles O45: by broadcast, refused, and accepted with the counter as it stands in the reply. -/
theorem counterReadReports : Obligations.CounterReadReports := by
  intro s f rest id clear action asked
  refine ⟨exec_counterRead_broadcast asked, fun addressed beyond => ?_,
    fun c addressed selected hclear haction => ?_⟩
  · rw [exec_counterRead asked addressed, takeCounterRead_refused beyond, refusedRange_replyTo]
  · intro x mask
    rw [exec_counterRead asked addressed, takeCounterRead_accepted selected hclear haction,
      accepted_setStats_replyTo]
    rfl

/-! ## EVENT_READ -/

/-- The count is taken as 1 to 4 (09 R159). -/
theorem eventCount_eq (n : Nat) : eventCount n = max 1 (min n 4) := by
  unfold eventCount
  split
  case isTrue none => rw [none]; rfl
  case isFalse some => split <;> omega

section
variable {s : State} {f : Frame} {rest : List Frame} {count : Byte}

theorem exec_eventRead (h : s.asked f rest 0x0C [count]) (addressed : f.broadcast = false) :
    exec .eventRead s = .next ((takeEventRead count (s.dropped rest)).replyTo f) :=
  congrArg _ (takeRequest_served h addressed (row := .eventRead) (parse := parse1)
    (fun f kind => by simp [Frame.row, kind]) rfl takeEventRead)

theorem exec_eventRead_broadcast (h : s.asked f rest 0x0C [count]) (broadcast : f.broadcast = true) :
    exec .eventRead s = .next (s.dropped rest) :=
  congrArg _ (takeRequest_dropped h broadcast (by decide) (by decide) (fun f kind => by simp [Frame.row, kind])
    parse1 takeEventRead)

end

/-- A request accepted, with what it writes in the notice queue. -/
theorem accepted_setNotices_replyTo (s : State) (q : NoticeQueue) (f : Frame) (rest : List Frame) (st : Status)
    (payload : List Byte) (h : st.carriesPayload = true) :
    Answer.replyTo { state := (s.dropped rest).setNotices q, status := st, payload := payload } f =
      { s.replied f rest st payload with notices := q } := by
  rw [Answer.replyTo, putReply_eq, if_pos h]
  rfl

/-- Settles O46: the ten bytes of each kind as they are laid out; then the row by broadcast, and answered with the
oldest records, where the reply carries its payload under either status. -/
theorem eventReadRemovesTheOldest : Obligations.EventReadRemovesTheOldest := by
  refine ⟨fun t d => ⟨fun _ _ _ => rfl, fun _ _ => rfl, fun _ => rfl, fun _ => rfl, fun _ _ => rfl, fun _ => rfl,
    fun _ => rfl⟩, layoutCodes, fun s f rest count asked => ?_⟩
  intro n kept out
  have taken : eventCount count.toNat = n := eventCount_eq _
  have carried : (if n = count.toNat then Status.ok else .clamped).carriesPayload = true := by split <;> rfl
  refine ⟨exec_eventRead_broadcast asked, fun addressed => ?_⟩
  rw [exec_eventRead asked addressed, takeEventRead]
  simp only [taken]
  rw [accepted_setNotices_replyTo _ _ _ _ _ _ carried]
  rfl

end Sys2Proof.Machine
end


section
/-! PROOFS. Every command answers: the queue, the straps and the timestamp count through each event; and from that what
every command leaves of them. -/

namespace Sys2Proof.Machine

/-! ## What is read from outside the blocks -/

/-- The pieces that a command other than COLD_RESET and TIMESTAMP_TICK keeps: the queue of commands, the straps and the
timestamp count (09 R157, 10 R162). -/
structure OuterView where
  pending : List Instr
  stationStraps : BitVec 3
  rateStraps : BitVec 2
  now : Stamp

/-- These pieces of a state. -/
def State.outerView (s : State) : OuterView :=
  { pending := s.pending, stationStraps := s.line.stationStraps, rateStraps := s.line.rateStraps, now := s.notices.now }

theorem State.outerView_eq {s t : State}
    (same : t.pending = s.pending ∧ t.line.stationStraps = s.line.stationStraps ∧
      t.line.rateStraps = s.line.rateStraps ∧ t.notices.now = s.notices.now) : t.outerView = s.outerView := by
  obtain ⟨pending, stationStraps, rateStraps, now⟩ := same
  simp only [State.outerView, pending, stationStraps, rateStraps, now]

/-! ## The shared operations and the warm reset -/

section
variable (s : State)

@[simp] theorem increment_outerView (id : CounterId) : (increment s id).outerView = s.outerView :=
  State.outerView_eq (by simp)

@[simp] theorem setFlight_outerView (x : Flight) : (s.setFlight x).outerView = s.outerView := rfl

@[simp] theorem putReply_outerView (f : Frame) (st : Status) (p : List Byte) :
    (putReply s f st p).outerView = s.outerView := State.outerView_eq (by simp)

/-- A line update that keeps the straps. -/
@[simp] theorem setLine_outerView {l : StationLine} (stationStraps : l.stationStraps = s.line.stationStraps)
    (rateStraps : l.rateStraps = s.line.rateStraps) : (s.setLine l).outerView = s.outerView :=
  State.outerView_eq ⟨rfl, stationStraps, rateStraps, rfl⟩

@[simp] theorem warmReset_outerView : (warmReset s).outerView = s.outerView := by
  refine State.outerView_eq ?_
  rw [warmReset_notices, warmReset_blocks]
  exact ⟨rfl, rfl, rfl, rfl⟩

@[simp] theorem finishRestart_outerView : (finishRestart s).outerView = s.outerView := by
  unfold finishRestart
  split
  · exact warmReset_outerView s
  · rfl

/-! ## Characters -/

@[simp] theorem abandonFrame_outerView (rx : RxState) : (abandonFrame s rx).outerView = s.outerView := by
  simp [abandonFrame]

@[simp] theorem receiveAddress_outerView (a : Byte) : (receiveAddress s a).outerView = s.outerView := by
  have ended : (if s.line.rx = .addressed then abandonFrame s .idle else s).outerView = s.outerView := by
    split
    · exact abandonFrame_outerView s .idle
    · rfl
  unfold receiveAddress
  dsimp only
  split <;> simp [ended]

@[simp] theorem finishFrame_outerView (bytes : List Byte) : (finishFrame s bytes).outerView = s.outerView := by
  unfold finishFrame
  split <;> simp

@[simp] theorem receiveData_outerView (b : Byte) : (receiveData s b).outerView = s.outerView := by
  unfold receiveData
  split
  case h_1 => rfl
  case h_2 => rfl
  case h_3 =>
    dsimp only
    split
    · exact abandonFrame_outerView s .skipping
    · split <;> simp

@[simp] theorem receiveFramingError_outerView : (receiveFramingError s).outerView = s.outerView := by
  unfold receiveFramingError
  split <;> simp

@[simp] theorem dropReply_outerView (id : CounterId) : (dropReply s id).outerView = s.outerView := by
  simp [dropReply]

@[simp] theorem endReply_outerView : (endReply s).outerView = s.outerView := by simp [endReply]

@[simp] theorem addressTakesLine_outerView (a : Byte) : (addressTakesLine s a).outerView = s.outerView := by
  simp [addressTakesLine]

@[simp] theorem readBack_outerView (position : Nat) (c : LineChar) :
    (readBack s position c).outerView = s.outerView := by
  unfold readBack
  split
  case h_1 => exact endReply_outerView s
  case h_2 => (repeat' split) <;> simp

/-- A character is read back, takes the line from a reply, or is received. -/
@[simp] theorem takeCharacter_outerView (c : LineChar) : (takeCharacter c s).outerView = s.outerView := by
  unfold takeCharacter
  split
  case h_1 position _ => exact readBack_outerView s position c
  case h_2 => split <;> simp
  case h_3 => (repeat' split) <;> simp

end

/-! ## The regime controller -/

/-- The parts of which the regime controller's events are made keep these pieces. -/
theorem regimeParts_outerView (s₀ : State) : RegimeParts fun s => s.outerView = s₀.outerView where
  ctl _ _ hs _ _ := hs
  told _ _ hs := hs
  clamp _ _ hs := hs
  flight _ _ hs := hs
  post _ _ hs := .trans (State.outerView_eq (by simp)) hs
  increment _ id hs := (increment_outerView _ id).trans hs
  detect _ _ hs := .trans (State.outerView_eq (by simp)) hs

section
variable (s : State)

@[simp] theorem takeEstimate_outerView (e : Estimate) : (takeEstimate e s).outerView = s.outerView :=
  (regimeParts_outerView s).takeEstimate rfl e

@[simp] theorem takeClassChange_outerView (cls : StrokeClass) : (takeClassChange cls s).outerView = s.outerView :=
  (regimeParts_outerView s).takeClassChange rfl cls

@[simp] theorem takeLockExpiry_outerView (run : RunNumber) : (takeLockExpiry run s).outerView = s.outerView :=
  (regimeParts_outerView s).takeLockExpiry rfl run

@[simp] theorem takeCaptureExpiry_outerView (run : RunNumber) : (takeCaptureExpiry run s).outerView = s.outerView :=
  (regimeParts_outerView s).takeCaptureExpiry rfl run

@[simp] theorem takeNotification_outerView (k : FaultKind) : (takeNotification k s).outerView = s.outerView :=
  (regimeParts_outerView s).takeNotification rfl k

@[simp] theorem takeArm_outerView : (takeArm s).state.outerView = s.outerView := (regimeParts_outerView s).takeArm rfl

@[simp] theorem takeDisarm_outerView : (takeDisarm s).state.outerView = s.outerView :=
  (regimeParts_outerView s).takeDisarm rfl

@[simp] theorem takeRelease_outerView : (takeRelease s).state.outerView = s.outerView :=
  (regimeParts_outerView s).takeRelease rfl

@[simp] theorem takeLock_outerView : (takeLock s).state.outerView = s.outerView :=
  (regimeParts_outerView s).takeLock rfl

/-! ## The target generator -/

@[simp] theorem countedIf_outerView (p : Prop) [Decidable p] (id : CounterId) :
    (s.countedIf p id).outerView = s.outerView := by
  unfold State.countedIf
  split
  · exact increment_outerView s id
  · rfl

/-- A step writes the target generator and is counted when it is limited. -/
@[simp] theorem moveToward_outerView (target rate : Int) : (moveToward s target rate).outerView = s.outerView :=
  countedIf_outerView (s.setTarget _) _ .rateLimited

@[simp] theorem lean_outerView (e : Estimate) : (lean s e).outerView = s.outerView :=
  (moveToward_outerView _ _ _).trans (countedIf_outerView s _ .targetClamps)

/-- A decision makes a leaning or holding step, or the commanded lean follows. -/
@[simp] theorem takeDecision_outerView (d : Decision) : (takeDecision d s).outerView = s.outerView := by
  have formed : (formTarget s d).outerView = s.outerView := by
    unfold formTarget
    split
    · exact lean_outerView s _
    · exact moveToward_outerView s _ _
    · rfl
  simpa [takeDecision] using formed

/-! ## Requests -/

/-- An accepted RESTART is the warm reset by broadcast, and otherwise a reply and the mark that it waits. -/
theorem takeRestart_outerView (f : Frame) : (takeRestart f s).outerView = s.outerView := by
  unfold takeRestart
  dsimp only
  split
  · split
    · exact warmReset_outerView s
    · simp
  · exact putReply_outerView s f _ _

/-- A request row keeps what its owner keeps. -/
theorem row_outerView {α : Type} (row : RequestRow) (parse : List Byte → Option α) (owner : α → State → Answer)
    (kept : ∀ a t, (owner a t).state.outerView = t.outerView) :
    (takeRequest row (serve parse owner) s).outerView = s.outerView :=
  takeRequest_ind (fun t => t.outerView = s.outerView) row _ s rfl fun f _ _ _ =>
    serve_ind (fun t => t.outerView = s.outerView) parse owner f _ rfl (putReply_outerView _ f _ _)
      fun a _ => (putReply_outerView _ f _ _).trans (kept a _)

end

/-! ## The whole -/

/-- Every command but COLD_RESET and TIMESTAMP_TICK answers, and keeps the pieces read from outside. -/
theorem exec_answers_outerView {c : Instr} (s : State) (noReset : ∀ a b, c ≠ .coldReset a b)
    (noTick : c ≠ .timestampTick) : ∃ t, exec c s = .next t ∧ t.outerView = s.outerView := by
  cases c
  case coldReset a b => exact absurd rfl (noReset a b)
  case timestampTick => exact absurd rfl noTick
  case warmReset =>
    refine ⟨_, execWarmReset_eq s, ?_⟩
    split
    · exact warmReset_outerView s
    · rfl
  case acquisitionPeriodStart | conversionComplete | wheelPulse | evaluationTimerExpiry | pullInEnd | lockTimerExpiry
      | turnaroundExpiry =>
    simp only [exec, execAcquisitionPeriodStart, execConversionComplete, execWheelPulse, execEvaluationTimerExpiry,
      execPullInEnd, execLockTimerExpiry, execTurnaroundExpiry]
    (repeat' split) <;> exact ⟨_, rfl, State.outerView_eq (by simp)⟩
  case estimate | classChange | lockTimerExpiryTaken | captureTimerExpiry | majorFaultNotification | regimeDecision
      | gapTimerExpiry =>
    simp only [exec, execEstimate, execClassChange, execLockTimerExpiryTaken, execCaptureTimerExpiry,
      execMajorFaultNotification, execRegimeDecision, execGapTimerExpiry]
    split <;> exact ⟨_, rfl, by simp⟩
  case snapshotAtEstimator | snapshotAtClamp | snapshotAtChannel | snapshotAtArbiter | setCommand | applyCommand
      | demandComputation | arbitration | grant =>
    simp only [exec, execSnapshotAtEstimator, execSnapshotAtClamp, execSnapshotAtChannel, execSnapshotAtArbiter,
      execSetCommand, execApplyCommand, execDemandComputation, execArbitration, execGrant]
    (repeat' split) <;> exact ⟨_, rfl, State.outerView_eq (by simp)⟩
  case addressCharacter value =>
    refine ⟨_, rfl, ?_⟩
    split <;> simp
  case dataCharacter | framingErrorCharacter | readbackCharacter => exact ⟨_, rfl, takeCharacter_outerView s _⟩
  case ident | status | setParam | getParam | mapWrite | mapRead | faultRead | faultClear | faultConfig | counterRead
      | eventRead | sampleRead | acqConfig | acqSingle | commandCodeOutOfRange =>
    exact ⟨_, rfl, row_outerView s _ _ _ fun _ _ => State.outerView_eq (by simp [refuse])⟩
  case arm | disarm | release | lock => exact ⟨_, rfl, row_outerView s _ _ _ fun _ _ => by simp⟩
  case restart =>
    exact ⟨_, rfl, takeRequest_ind (fun t => t.outerView = s.outerView) _ _ s rfl fun f _ _ _ =>
      takeRestart_outerView _ f⟩
  case unknownKind =>
    exact ⟨_, rfl, takeRequest_ind (fun t => t.outerView = s.outerView) _ _ s rfl fun f _ _ _ =>
      putReply_outerView _ f _ _⟩

/-- Settles O2: a cold reset keeps the queue, a millisecond the queue and the straps, and every other command all of
them. -/
theorem everyCommandAnswers : Obligations.EveryCommandAnswers := by
  intro c s
  by_cases reset : ∃ a b, c = .coldReset a b
  · obtain ⟨a, b, rfl⟩ := reset
    exact ⟨_, rfl, rfl, fun noReset => absurd rfl (noReset a b)⟩
  · by_cases tick : c = .timestampTick
    · subst tick
      exact ⟨_, execTimestampTick_eq s, rfl, fun _ => ⟨rfl, rfl, fun noTick => absurd rfl noTick⟩⟩
    · obtain ⟨t, answer, kept⟩ := exec_answers_outerView s (fun a b h => reset ⟨a, b, h⟩) tick
      rw [State.outerView, State.outerView, OuterView.mk.injEq] at kept
      obtain ⟨pending, stationStraps, rateStraps, now⟩ := kept
      exact ⟨t, answer, pending, fun _ => ⟨stationStraps, rateStraps, fun _ => now⟩⟩

end Sys2Proof.Machine
end


section
/-! PROOFS. The station line, its events: what the receive and the transmit side make of each character and each timer;
and from that the receive table, the frame and the reply on the line. -/

namespace Sys2Proof.Machine

/-! ## What the two sides share -/

section
variable (s : State)

/-- A frame abandoned: the count does not read the line (10 R163). -/
theorem abandonFrame_eq (rx : RxState) :
    abandonFrame s rx = { increment s .framesBad with line := { s.line with rx := rx, buffer := [] } } :=
  increment_setLine s _ .framesBad

theorem dropReply_eq (id : CounterId) : dropReply s id = s.replyLost id := increment_setLine s _ id

theorem finishRestart_eq : finishRestart s = s.replyOver := rfl

theorem forPart_iff (l : StationLine) (a : Byte) : forPart l a = true ↔ a = l.station ∨ a = 31 := by
  rw [forPart, Bool.or_eq_true, decide_eq_true_eq, decide_eq_true_eq]
  rfl

/-- An address character ends the frame so far, if there is one, and is then taken as in IDLE (10 R163). -/
theorem receiveAddress_eq (a : Byte) :
    receiveAddress s a = (if s.line.rx = .addressed then abandonFrame s .idle else s).addressed a := by
  have station : (if s.line.rx = .addressed then abandonFrame s .idle else s).line.station = s.line.station := by
    split
    · rw [abandonFrame_eq]
      rfl
    · rfl
  unfold receiveAddress State.addressed
  simp only [forPart_iff, station]
  split
  · rfl
  · exact increment_setLine _ _ .framesOther

/-- An address character that takes the line from a reply finds the receive side in IDLE (10 R166, R167). -/
theorem addressTakesLine_eq (a : Byte) :
    addressTakesLine s a = ((s.replyLost .repliesDropped).addressed a).replyOver := by
  rw [addressTakesLine, finishRestart_eq, dropReply_eq, receiveAddress_eq, if_neg (by simp [State.replyLost])]

end

/-! ## Whose turn it is -/

section
variable {s : State}

/-- In IDLE the stop bit and the mark tell what kind of character is received (10 R163). -/
theorem takeCharacter_of_idle (h : s.line.tx = .idle) (c : LineChar) :
    takeCharacter c s =
      if !c.stop then receiveFramingError s else if c.mark then receiveAddress s c.data else receiveData s c.data := by
  simp only [takeCharacter, h]

/-- In TURNAROUND an address character alone is taken (10 R166). -/
theorem takeCharacter_of_turnaround (h : s.line.tx = .turnaround) (c : LineChar) :
    takeCharacter c s = if c.mark && c.stop then addressTakesLine s c.data else s := by
  simp only [takeCharacter, h]

/-- In SENDING every character is a read-back (10 R167). -/
theorem takeCharacter_of_sending {n : Nat} (h : s.line.tx = .sending n) (c : LineChar) :
    takeCharacter c s = readBack s n c := by
  simp only [takeCharacter, h]

end

/-! ## The receive table -/

section
variable {s : State}

theorem receiveData_of_not_addressed (h : s.line.rx ≠ .addressed) (b : Byte) : receiveData s b = s := by
  unfold receiveData
  split
  case h_3 addressed => exact absurd addressed h
  all_goals rfl

theorem receiveFramingError_of_not_addressed (h : s.line.rx ≠ .addressed) : receiveFramingError s = s := by
  unfold receiveFramingError
  split
  case h_1 addressed => exact absurd addressed h
  all_goals rfl

theorem receiveFramingError_of_addressed (h : s.line.rx = .addressed) :
    receiveFramingError s = abandonFrame s .idle := by
  simp only [receiveFramingError, h]

theorem exec_gapTimerExpiry_acts {elapsed : Nat} (h : s.line.rx = .addressed) (late : 1000 < elapsed) :
    exec (.gapTimerExpiry elapsed) s = .next (abandonFrame s .idle) := if_pos ⟨h, late⟩

theorem exec_gapTimerExpiry_idles {elapsed : Nat} (h : s.line.rx ≠ .addressed ∨ elapsed ≤ 1000) :
    exec (.gapTimerExpiry elapsed) s = .next s :=
  if_neg fun ⟨addressed, late⟩ => h.elim (absurd addressed) (Nat.not_le_of_lt late)

end

/-- Settles O31: the characters by kind and receive state, then the gap; a character begun before the last reset ended
does not reach the line. -/
theorem receiveTable : Obligations.ReceiveTable := by
  refine ⟨fun s idle => ?_, fun _ _ => rfl⟩
  intro released bad
  have abandoned : abandonFrame s .idle = bad := abandonFrame_eq s .idle
  have address (a : Byte) : exec (.addressCharacter { data := a, start := .sinceReset }) s =
      .next (receiveAddress s a) := congrArg _ (takeCharacter_of_idle idle _)
  have data (b : Byte) : exec (.dataCharacter b) s = .next (receiveData s b) :=
    congrArg _ (takeCharacter_of_idle idle _)
  have framingError : exec .framingErrorCharacter s = .next (receiveFramingError s) :=
    congrArg _ (takeCharacter_of_idle idle _)
  refine ⟨fun a other => ?_, fun a addressed => ?_, fun b other => ?_, fun other => ?_, fun addressed => ?_,
    fun elapsed => ⟨fun addressed late => ?_, exec_gapTimerExpiry_idles⟩⟩
  · rw [address, receiveAddress_eq, if_neg other]
  · rw [address, receiveAddress_eq, if_pos addressed, abandoned]
  · rw [data, receiveData_of_not_addressed other]
  · rw [framingError, receiveFramingError_of_not_addressed other]
  · rw [framingError, receiveFramingError_of_addressed addressed, abandoned]
  · rw [exec_gapTimerExpiry_acts addressed late, abandoned]

/-! ## The frame -/

theorem lenAdmitted_iff (len : Byte) : lenAdmitted len = true ↔ 2 ≤ len.toNat ∧ len.toNat ≤ 60 := by
  simp [lenAdmitted]

/-- An empty frame is not complete whatever LEN is taken for it. -/
theorem frameComplete_iff (bytes : List Byte) :
    frameComplete bytes = true ↔ bytes.length = (bytes.headD 0).toNat + 3 := by
  cases bytes <;> simp [frameComplete]

section
variable {s : State} {bytes : List Byte}

theorem finishFrame_of_bad (bad : checkBytes (bytes.take (bytes.length - 2)) ≠ bytes.drop (bytes.length - 2)) :
    finishFrame s bytes = abandonFrame s .idle :=
  if_neg (by rw [frameGood, decide_eq_true_eq]; exact bad)

/-- A good frame is counted and goes behind the frames handed on before (10 R164). -/
theorem finishFrame_of_good (good : checkBytes (bytes.take (bytes.length - 2)) = bytes.drop (bytes.length - 2)) :
    finishFrame s bytes = { increment s .framesGood with
      line := { s.line with rx := .idle, buffer := [] }
      flight := { s.flight with frames := s.flight.frames ++ [frameOf bytes s.line.toBroadcast] } } := by
  have checked : frameGood bytes = true := decide_eq_true good
  have flight : (increment s .framesGood).flight = s.flight := by simp
  rw [finishFrame, if_pos checked, increment_setLine]
  dsimp only
  rw [State.setLine_flight, flight]
  rfl

variable {b : Byte}

/-- A first character that is no LEN in 2 to 60 (10 R164). -/
theorem receiveData_of_badLength (h : s.line.rx = .addressed) (first : s.line.buffer = [])
    (outside : b.toNat < 2 ∨ 60 < b.toNat) : receiveData s b = abandonFrame s .skipping := by
  have refused : lenAdmitted b = false := by
    rw [← Bool.not_eq_true, lenAdmitted_iff]
    omega
  simp only [receiveData, h]
  exact if_pos (by rw [first, refused]; rfl)

/-- Any other character joins the frame, and may complete it (10 R164). -/
theorem receiveData_of_collected (h : s.line.rx = .addressed)
    (length : s.line.buffer = [] → 2 ≤ b.toNat ∧ b.toNat ≤ 60) (joined : s.line.buffer ++ [b] = bytes) :
    receiveData s b =
      if bytes.length = (bytes.headD 0).toNat + 3 then finishFrame s bytes
      else s.setLine { s.line with buffer := bytes } := by
  have admitted : ¬ (s.line.buffer.isEmpty && !lenAdmitted b) = true := by
    rw [Bool.and_eq_true, List.isEmpty_iff, Bool.not_eq_true']
    rintro ⟨first, refused⟩
    rw [(lenAdmitted_iff b).mpr (length first)] at refused
    cases refused
  simp only [receiveData, h]
  rw [if_neg admitted, joined]
  simp only [frameComplete_iff]

end

/-- The check sequence of the digits 1 to 9 (11 R176). -/
theorem checkBytes_digits :
    checkBytes [0x31, 0x32, 0x33, 0x34, 0x35, 0x36, 0x37, 0x38, 0x39] = [0x29, 0xB1] := by
  decide +kernel

/-- Settles O32: the length test, the frame that grows, and the check of a complete one. -/
theorem dataFillsTheFrame : Obligations.DataFillsTheFrame := by
  refine ⟨fun s b idle addressed => ?_, checkBytes_digits⟩
  intro bytes body
  have data : exec (.dataCharacter b) s = .next (receiveData s b) := congrArg _ (takeCharacter_of_idle idle _)
  refine ⟨fun first outside => ?_, fun length => ?_⟩
  · rw [data, receiveData_of_badLength addressed first outside, abandonFrame_eq]
  · rw [data, receiveData_of_collected addressed length (bytes := bytes) rfl]
    refine ⟨fun grows => ?_, fun complete => ⟨fun good => ?_, fun bad => ?_⟩⟩
    · rw [if_neg grows]
      rfl
    · rw [if_pos complete, finishFrame_of_good good]
      rfl
    · rw [if_pos complete, finishFrame_of_bad bad, abandonFrame_eq]

/-! ## The reply -/

section
variable {s : State} {n : Nat} {sent : LineChar}

theorem exec_turnaroundExpiry_acts {elapsed : Nat} (h : s.line.tx = .turnaround) (late : 100 ≤ elapsed) :
    exec (.turnaroundExpiry elapsed) s = .next { s with line := { s.line with tx := .sending 0 } } :=
  if_pos ⟨h, late⟩

theorem exec_turnaroundExpiry_idles {elapsed : Nat} (h : s.line.tx ≠ .turnaround ∨ elapsed < 100) :
    exec (.turnaroundExpiry elapsed) s = .next s :=
  if_neg fun ⟨turnaround, late⟩ => h.elim (absurd turnaround) (Nat.not_lt_of_le late)

theorem sendingChars_of_reply {l : StationLine} {r : Reply} (h : l.reply = some r) : sendingChars l = r.chars := by
  simp only [sendingChars, h]

/-- A read-back equal to what was sent (10 R165, R167). -/
theorem readBack_of_equal (h : (sendingChars s.line)[n]? = some sent) :
    readBack s n sent =
      if n + 1 < (sendingChars s.line).length then s.setLine { s.line with tx := .sending (n + 1) }
      else endReply s := by
  simp only [readBack, h, if_true]

/-- A read-back that differs is an address character or a collision (10 R167). -/
theorem readBack_of_differing (h : (sendingChars s.line)[n]? = some sent) {c : LineChar} (differs : c ≠ sent) :
    readBack s n c =
      if c.mark && c.stop then addressTakesLine s c.data else finishRestart (dropReply s .replyCollisions) := by
  simp only [readBack, h, if_neg differs]

/-- The part drives every stop bit high (10 R165). -/
theorem stop_of_mem_sendingChars {l : StationLine} {c : LineChar} (h : c ∈ sendingChars l) : c.stop = true := by
  unfold sendingChars at h
  split at h
  case h_1 r _ =>
    rw [Reply.chars, List.mem_cons, List.mem_map] at h
    obtain rfl | ⟨b, -, rfl⟩ := h <;> rfl
  case h_2 => cases h

/-- A character with its stop bit low is never what was sent (10 R167). -/
theorem readBack_of_framingError (s : State) (n : Nat) {c : LineChar} (low : c.stop = false) :
    readBack s n c =
      if (sendingChars s.line)[n]? = none then endReply s else finishRestart (dropReply s .replyCollisions) := by
  cases h : (sendingChars s.line)[n]? with
  | none => simp only [readBack, h, if_true]
  | some sent =>
    have differs : c ≠ sent := by
      rintro rfl
      rw [stop_of_mem_sendingChars (List.mem_of_getElem? h)] at low
      cases low
    rw [readBack_of_differing h differs, if_neg (by simp [low]), if_neg (by simp)]

/-- Of a character with its stop bit low the other bits do not matter, whosever turn it is (10 R163). -/
theorem takeCharacter_congr_of_framingError (s : State) {c d : LineChar} (hc : c.stop = false) (hd : d.stop = false) :
    takeCharacter c s = takeCharacter d s := by
  cases h : s.line.tx with
  | idle => simp [takeCharacter_of_idle h, hc, hd]
  | turnaround => simp [takeCharacter_of_turnaround h, hc, hd]
  | sending n =>
    rw [takeCharacter_of_sending h, takeCharacter_of_sending h, readBack_of_framingError s n hc,
      readBack_of_framingError s n hd]

end

/-- Settles O33: the turnaround and its timer, then the read-back equal or not; a character command in SENDING is the
read-back of that character by the definition of its row, but for the bits that a framing error leaves open. -/
theorem replyOnTheLine : Obligations.ReplyOnTheLine := by
  refine ⟨fun _ => rfl, fun _ => rfl, fun s => ⟨fun elapsed => ⟨exec_turnaroundExpiry_acts,
    exec_turnaroundExpiry_idles⟩, fun turnaround => ⟨fun a => ?_, fun b => ?_, ?_⟩,
    fun n r sent c sending reply here => ?_, fun _ => rfl, fun _ => rfl,
    fun b m => congrArg _ (takeCharacter_congr_of_framingError s rfl rfl)⟩⟩
  · exact congrArg _ ((takeCharacter_of_turnaround turnaround { data := a, mark := true, stop := true }).trans
      (addressTakesLine_eq s a))
  · exact congrArg _ (takeCharacter_of_turnaround turnaround _)
  · exact congrArg _ (takeCharacter_of_turnaround turnaround _)
  · have readback : exec (.readbackCharacter c) s = .next (readBack s n c) :=
      congrArg _ (takeCharacter_of_sending sending c)
    have chars : sendingChars s.line = r.chars := sendingChars_of_reply reply
    rw [← chars] at here ⊢
    rw [readback]
    refine ⟨fun equal more => ?_, fun equal last => ?_, fun differs mark stop => ?_, fun differs other => ?_⟩
    · subst equal
      rw [readBack_of_equal here, if_pos more]
      rfl
    · subst equal
      rw [readBack_of_equal here, if_neg (Nat.not_lt_of_le last)]
      rfl
    · rw [readBack_of_differing here differs, if_pos (by rw [mark, stop]; rfl), addressTakesLine_eq]
    · have noAddress : ¬ (c.mark && c.stop) = true := by rcases other with h | h <;> simp [h]
      rw [readBack_of_differing here differs, if_neg noAddress, dropReply_eq, finishRestart_eq]

end Sys2Proof.Machine
end


section
/-! PROOFS. The station line, the law: what the two sides and a reply make of a lawful line; and that no other event
writes the line. -/

namespace Sys2Proof.Machine

/-! ## The law of a line -/

/-- The line law, of the line alone. -/
structure StationLine.Lawful (l : StationLine) : Prop where
  buffer : l.rx ≠ .addressed → l.buffer = []
  reply : l.reply.isSome = true ↔ l.tx ≠ .idle
  waiting : l.restartWaiting = true → l.tx ≠ .idle

theorem State.lineLaw_iff (s : State) : s.LineLaw ↔ s.line.Lawful :=
  ⟨fun ⟨buffer, reply, waiting⟩ => ⟨buffer, reply, waiting⟩,
    fun ⟨buffer, reply, waiting⟩ => ⟨buffer, reply, waiting⟩⟩

theorem StationLine.start_lawful (stationStraps : BitVec 3) (rateStraps : BitVec 2) :
    (StationLine.start stationStraps rateStraps).Lawful :=
  ⟨fun _ => rfl, by simp [StationLine.start], nofun⟩

section
variable {l : StationLine} (h : l.Lawful)
include h

/-- The receive side may go to any state with its buffer empty. -/
theorem StationLine.Lawful.receives (rx : RxState) (toBroadcast : Bool) :
    { l with rx := rx, buffer := [], toBroadcast := toBroadcast }.Lawful :=
  ⟨fun _ => rfl, h.reply, h.waiting⟩

/-- In ADDRESSED the buffer may hold anything. -/
theorem StationLine.Lawful.collects (addressed : l.rx = .addressed) (bytes : List Byte) :
    { l with buffer := bytes }.Lawful :=
  ⟨fun other => absurd addressed other, h.reply, h.waiting⟩

/-- The transmit side may go to SENDING, or further in it, from wherever it holds a reply. -/
theorem StationLine.Lawful.sends (busy : l.tx ≠ .idle) (n : Nat) : { l with tx := .sending n }.Lawful :=
  ⟨h.buffer, iff_of_true (h.reply.mpr busy) nofun, fun _ => nofun⟩

/-- The reply may end once no RESTART waits for it. -/
theorem StationLine.Lawful.releases (alone : l.restartWaiting = false) :
    { l with tx := .idle, reply := none }.Lawful :=
  ⟨h.buffer, by simp, by simp [alone]⟩

/-- A reply is put in the buffer, and a RESTART may then wait for it. -/
theorem StationLine.Lawful.answers (r : Reply) (waiting : Bool) :
    { l with tx := .turnaround, reply := some r, restartWaiting := waiting }.Lawful :=
  ⟨h.buffer, by simp, fun _ => nofun⟩

end

/-! ## The line after each event that writes it -/

section
variable (s : State)

theorem warmReset_line : (warmReset s).line = .start s.line.stationStraps s.line.rateStraps :=
  (congrArg State.line (warmReset_blocks s) :)

theorem abandonFrame_line (rx : RxState) : (abandonFrame s rx).line = { s.line with rx := rx, buffer := [] } := by
  rw [abandonFrame_eq]

theorem addressed_restartWaiting (a : Byte) : (s.addressed a).line.restartWaiting = s.line.restartWaiting := by
  unfold State.addressed
  split <;> rfl

theorem warmReset_lineLawful : (warmReset s).line.Lawful := warmReset_line s ▸ StationLine.start_lawful _ _

end

section
variable {s : State}

/-- A waiting RESTART makes the line lawful by its warm reset, so only a reply without one has to leave it lawful. -/
theorem replyOver_lineLawful (h : s.line.restartWaiting = false → s.line.Lawful) : s.replyOver.line.Lawful := by
  unfold State.replyOver
  split
  case isTrue => exact warmReset_lineLawful s
  case isFalse alone => exact h (eq_false_of_ne_true alone)

variable (h : s.line.Lawful)
include h

theorem abandonFrame_lineLawful (rx : RxState) : (abandonFrame s rx).line.Lawful :=
  abandonFrame_line s rx ▸ h.receives rx s.line.toBroadcast

theorem addressed_lineLawful (a : Byte) : (s.addressed a).line.Lawful := by
  unfold State.addressed
  split
  · exact h.receives .addressed _
  · exact h.receives .skipping s.line.toBroadcast

theorem receiveAddress_lineLawful (a : Byte) : (receiveAddress s a).line.Lawful := by
  rw [receiveAddress_eq]
  split
  · exact addressed_lineLawful (abandonFrame_lineLawful h .idle) a
  · exact addressed_lineLawful h a

theorem finishFrame_lineLawful (bytes : List Byte) : (finishFrame s bytes).line.Lawful := by
  by_cases good : checkBytes (bytes.take (bytes.length - 2)) = bytes.drop (bytes.length - 2)
  · rw [finishFrame_of_good good]
    exact h.receives .idle s.line.toBroadcast
  · rw [finishFrame_of_bad good]
    exact abandonFrame_lineLawful h .idle

theorem receiveData_lineLawful (b : Byte) : (receiveData s b).line.Lawful := by
  unfold receiveData
  split
  case h_1 => exact h
  case h_2 => exact h
  case h_3 addressed =>
    dsimp only
    split
    · exact abandonFrame_lineLawful h .skipping
    · split
      · exact finishFrame_lineLawful h _
      · exact h.collects addressed _

theorem receiveFramingError_lineLawful : (receiveFramingError s).line.Lawful := by
  by_cases addressed : s.line.rx = .addressed
  · rw [receiveFramingError_of_addressed addressed]
    exact abandonFrame_lineLawful h .idle
  · rwa [receiveFramingError_of_not_addressed addressed]

/-- A lost reply leaves the line lawful once no RESTART waits for it. -/
theorem replyLost_lineLawful (id : CounterId) (alone : s.line.restartWaiting = false) :
    (s.replyLost id).line.Lawful :=
  (h.releases alone).receives .idle s.line.toBroadcast

theorem endReply_lineLawful : (endReply s).line.Lawful := replyOver_lineLawful h.releases

theorem addressTakesLine_lineLawful (a : Byte) : (addressTakesLine s a).line.Lawful := by
  rw [addressTakesLine_eq]
  refine replyOver_lineLawful fun alone => ?_
  rw [addressed_restartWaiting] at alone
  exact addressed_lineLawful (replyLost_lineLawful h .repliesDropped alone) a

theorem readBack_lineLawful {n : Nat} (sending : s.line.tx = .sending n) (c : LineChar) :
    (readBack s n c).line.Lawful := by
  unfold readBack
  split
  case h_1 => exact endReply_lineLawful h
  case h_2 =>
    split
    · split
      · exact h.sends (by simp [sending]) (n + 1)
      · exact endReply_lineLawful h
    · split
      · exact addressTakesLine_lineLawful h c.data
      · rw [dropReply_eq]
        exact replyOver_lineLawful (replyLost_lineLawful h .replyCollisions)

/-- A character is read back, takes the line from a reply, or is received. -/
theorem takeCharacter_lineLawful (c : LineChar) : (takeCharacter c s).line.Lawful := by
  unfold takeCharacter
  split
  case h_1 n sending => exact readBack_lineLawful h sending c
  case h_2 =>
    split
    · exact addressTakesLine_lineLawful h c.data
    · exact h
  case h_3 =>
    split
    · exact receiveFramingError_lineLawful h
    · split
      · exact receiveAddress_lineLawful h c.data
      · exact receiveData_lineLawful h c.data

theorem execGapTimerExpiry_lineLawful {elapsed : Nat} {t : State} (answer : execGapTimerExpiry elapsed s = .next t) :
    t.line.Lawful := by
  unfold execGapTimerExpiry at answer
  split at answer <;> cases answer
  · exact abandonFrame_lineLawful h .idle
  · exact h

theorem execTurnaroundExpiry_lineLawful {elapsed : Nat} {t : State}
    (answer : execTurnaroundExpiry elapsed s = .next t) : t.line.Lawful := by
  unfold execTurnaroundExpiry at answer
  split at answer <;> cases answer
  case isTrue due =>
    obtain ⟨turnaround, -⟩ := due
    exact h.sends (by simp [turnaround]) 0
  case isFalse => exact h

theorem putReply_lineLawful (f : Frame) (st : Status) (p : List Byte) : (putReply s f st p).line.Lawful := by
  unfold putReply
  split
  · exact h
  · exact h.answers _ s.line.restartWaiting

/-- An accepted RESTART waits for the reply that it has just put in the buffer (01 R29). -/
theorem takeRestart_lineLawful (f : Frame) : (takeRestart f s).line.Lawful := by
  unfold takeRestart
  split
  · split
    case isTrue => exact warmReset_lineLawful s
    case isFalse addressed =>
      rw [putReply, if_neg addressed]
      exact h.answers _ true
  · exact putReply_lineLawful h f _ _

end

/-! ## The whole -/

/-- The characters, the line's two timers, a reply, a RESTART and the resets keep the law as shown above; every other
event leaves the line as it was. -/
theorem keeps_lineLawful : Keeps fun s => s.line.Lawful := by
  have frame : ∀ {s t : State}, s.line.Lawful → t.line = s.line → t.line.Lawful := fun h same => same ▸ h
  exact
    { flight := fun _ _ h _ _ => h
      cold := fun a b _ => StationLine.start_lawful a b
      warm := fun s _ => warmReset_lineLawful s
      tick := fun _ _ h x => frame h (by simp [execTimestampTick_frame x])
      period := fun _ _ h x => frame h (by simp [execAcquisitionPeriodStart_frame x])
      conversion := fun _ _ _ _ h x => frame h (by simp [execConversionComplete_frame x])
      estimator := fun _ _ h => frame h (by simp)
      clamp := fun _ _ h => frame h (by simp)
      tilt := fun _ _ h => frame h (by simp)
      steer := fun _ _ h => frame h (by simp)
      arbiter := fun _ _ h => frame h (by simp)
      estimate := fun _ _ h => frame h (by simp)
      classChange := fun _ _ h => frame h (by simp)
      pullIn := fun _ _ h x => frame h (by simp [execPullInEnd_frame x])
      lockTimer := fun _ _ h x => frame h (by simp [execLockTimerExpiry_frame x])
      lockExpiry := fun _ _ h => frame h (by simp)
      captureExpiry := fun _ _ h => frame h (by simp)
      notification := fun _ _ h => frame h (by simp)
      set := fun _ _ h => frame h (by simp)
      apply := fun _ h => h
      decision := fun _ _ h => frame h (by simp)
      leanCommand := fun _ _ h => frame h (by simp)
      demands := fun _ _ _ h _ => frame h (by simp)
      grants := fun _ _ _ h _ => frame h (by simp)
      pulse := fun _ _ _ h x => frame h (by simp [execWheelPulse_frame x])
      evaluation := fun _ _ _ h x => frame h (by simp [execEvaluationTimerExpiry_frame x])
      character := fun c _ h => takeCharacter_lineLawful h c
      gap := fun _ _ _ h x => execGapTimerExpiry_lineLawful h x
      turnaround := fun _ _ _ h x => execTurnaroundExpiry_lineLawful h x
      reply := fun _ f st p h => putReply_lineLawful h f st p
      setParam := fun _ _ _ h => frame h (by simp)
      mapWrite := fun _ _ _ h => frame h (by simp)
      arm := fun _ h => frame h (by simp)
      disarm := fun _ h => frame h (by simp)
      release := fun _ h => frame h (by simp)
      lock := fun _ h => frame h (by simp)
      restart := fun f _ h => takeRestart_lineLawful h f
      faultClear := fun _ _ h => frame h (by simp)
      faultConfig := fun _ _ _ _ _ h => frame h (by simp)
      counterRead := fun _ _ _ _ h => frame h (by simp)
      eventRead := fun _ _ h => frame h (by simp)
      sampleRead := fun _ _ _ h => frame h (by simp)
      acqConfig := fun _ _ _ h => frame h (by simp)
      acqSingle := fun _ h => frame h (by simp) }

/-- Settles O60: each event keeps the law of the line, and the queue does not enter into it. -/
theorem lineLawIsKept : Obligations.LineLawIsKept := fun s t h lawful =>
  t.lineLaw_iff.mpr (keeps_lineLawful.step (fun _ _ lawful => lawful) (s.lineLaw_iff.mp lawful) h)

end Sys2Proof.Machine
end


section
/-! PROOFS. The request handler's tests: which row takes a frame of a wrong length, a broadcast or an unknown KIND, and
what its answer leaves. -/

namespace Sys2Proof.Machine

/-! ## Payloads of a wrong length -/

/-- No payload of another length than this one is taken. -/
def Rejects {α : Type} (parse : List Byte → Option α) (n : Nat) : Prop :=
  ∀ payload, payload.length ≠ n → parse payload = none

/-- The payload forms of 11 R176, each with its length. -/
theorem parse_rejects :
    Rejects parse0 0 ∧ Rejects parse1 1 ∧ Rejects parse2 2 ∧ Rejects parse3 3 ∧ Rejects parse4 4 ∧
      Rejects parseBitmap 2 ∧ Rejects parseParam 5 ∧ Rejects parseRow 19 := by
  and_intros
  all_goals
    intro payload wrong
    delta parse0 parse1 parse2 parse3 parse4 parseBitmap parseParam parseRow
    split
    · exact absurd rfl wrong
    · rfl

/-! ## Which row takes the frame -/

/-- A frame with a KIND outside 1 to 15 falls to UNKNOWN_KIND. -/
theorem row_of_unknown_kind {f : Frame} (unknown : f.kind.toNat = 0 ∨ 15 < f.kind.toNat) : f.row = .unknownKind := by
  unfold Frame.row
  split
  case h_16 => rfl
  all_goals omega

/-- A frame of a KIND other than COMMAND falls to the row of that KIND. -/
theorem row_of_kind {f : Frame} {row : RequestRow} (known : row ≠ .unknownKind) (noCommand : row.kind ≠ 0x07)
    (kind : f.kind = row.kind) : f.row = row := by
  cases row
  case unknownKind => exact absurd rfl known
  case arm | disarm | release | lock | restart | commandCodeOutOfRange => exact absurd rfl noCommand
  all_goals simp [Frame.row, kind, RequestRow.kind]

/-- A COMMAND without its one code byte falls to the row of the codes out of range (log 18). -/
theorem commandRow_of_length {payload : List Byte} (wrong : payload.length ≠ 1) :
    commandRow payload = .commandCodeOutOfRange := by
  unfold commandRow
  split
  · exact absurd rfl wrong
  · rfl

/-- So does one with a code outside 1 to 5 (11 R172). -/
theorem commandRow_of_code {code : Byte} (beyond : code.toNat = 0 ∨ 5 < code.toNat) :
    commandRow [code] = .commandCodeOutOfRange := by
  have other : ∀ known : Byte, 1 ≤ known.toNat → known.toNat ≤ 5 → code ≠ known := by
    rintro known low high rfl
    omega
  simp [commandRow, other]

/-! ## How the rows of the request table answer -/

/-- The command is the row that serves the frames of this KIND at this length. Of COMMAND it need only have those of
another length: the rest go by their code. -/
def ServedAs (c : Instr) (kind : Byte) (n : Nat) : Prop :=
  ∃ (α : Type) (row : RequestRow) (parse : List Byte → Option α) (owner : α → State → Answer),
    (∀ s, exec c s = .next (takeRequest row (serve parse owner) s)) ∧ Rejects parse n ∧
      ∀ f : Frame, f.kind = kind → kind ≠ 0x07 ∨ f.payload.length ≠ n → f.row = row

/-- A KIND other than COMMAND is served by the one row that it has. -/
theorem servedAs_of_row {α : Type} {c : Instr} {row : RequestRow} {parse : List Byte → Option α}
    {owner : α → State → Answer} {n : Nat} (taken : ∀ s, exec c s = .next (takeRequest row (serve parse owner) s))
    (rejects : Rejects parse n) (known : row ≠ .unknownKind) (noCommand : row.kind ≠ 0x07) :
    ServedAs c row.kind n :=
  ⟨α, row, parse, owner, taken, rejects, fun _ kind _ => row_of_kind known noCommand kind⟩

/-- COMMANDs of a wrong length fall to the codes out of range (log 18). -/
theorem commandCodeOutOfRange_servedAs (rejects : Rejects parse1 1) : ServedAs .commandCodeOutOfRange 0x07 1 :=
  ⟨_, _, _, _, fun _ => rfl, rejects, fun _ kind wrong =>
    (row_of_command kind).trans (commandRow_of_length (wrong.resolve_left (absurd rfl)))⟩

/-- Each entry of the request table is the row that serves its KIND at its length. -/
theorem requestTable_servedAs : ∀ p ∈ requestTable, ServedAs p.1 p.2.1 p.2.2 := by
  simp only [requestTable, List.forall_mem_cons, List.not_mem_nil, false_implies, implies_true, and_true]
  obtain ⟨empty, one, two, three, four, bitmap, param, row⟩ := parse_rejects
  exact
    ⟨servedAs_of_row (row := .ident) (fun _ => rfl) empty nofun (by decide),
      servedAs_of_row (row := .status) (fun _ => rfl) empty nofun (by decide),
      servedAs_of_row (row := .setParam) (fun _ => rfl) param nofun (by decide),
      servedAs_of_row (row := .getParam) (fun _ => rfl) one nofun (by decide),
      servedAs_of_row (row := .mapWrite) (fun _ => rfl) row nofun (by decide),
      servedAs_of_row (row := .mapRead) (fun _ => rfl) one nofun (by decide),
      commandCodeOutOfRange_servedAs one,
      servedAs_of_row (row := .faultRead) (fun _ => rfl) one nofun (by decide),
      servedAs_of_row (row := .faultClear) (fun _ => rfl) bitmap nofun (by decide),
      servedAs_of_row (row := .faultConfig) (fun _ => rfl) four nofun (by decide),
      servedAs_of_row (row := .counterRead) (fun _ => rfl) three nofun (by decide),
      servedAs_of_row (row := .eventRead) (fun _ => rfl) one nofun (by decide),
      servedAs_of_row (row := .sampleRead) (fun _ => rfl) two nofun (by decide),
      servedAs_of_row (row := .acqConfig) (fun _ => rfl) two nofun (by decide),
      servedAs_of_row (row := .acqSingle) (fun _ => rfl) empty nofun (by decide)⟩

section
variable {s : State} {f : Frame} {rest : List Frame}

/-- A reply without a payload. -/
theorem putReply_bare (s : State) (f : Frame) (rest : List Frame) (st : Status) :
    putReply (s.dropped rest) f st [] = s.replied f rest st [] := by
  rw [putReply_eq, ite_self]
  rfl

/-- The reply to a broadcast is none (11 R171). -/
theorem replied_broadcast (broadcast : f.broadcast = true) (st : Status) (payload : List Byte) :
    s.replied f rest st payload = s.dropped rest := by
  unfold State.replied StationLine.answered
  rw [if_pos broadcast]
  rfl

/-- A broadcast of a KIND that may not be one is dropped, before its length is looked at (11 R169, test 1). -/
theorem ServedAs.exec_broadcast {c : Instr} {n : Nat} (served : ServedAs c f.kind n)
    (front : s.flight.frames = f :: rest) (noSetParam : f.kind ≠ 0x03) (noCommand : f.kind ≠ 0x07)
    (broadcast : f.broadcast = true) : exec c s = .next (s.dropped rest) := by
  obtain ⟨α, row, parse, owner, taken, -, own⟩ := served
  rw [taken]
  exact congrArg _ (takeRequest_dropped ⟨front, rfl, rfl⟩ broadcast noSetParam noCommand
    (fun f kind => own f kind (.inl noCommand)) parse owner)

/-- A payload of a wrong length is answered MALFORMED; a broadcast that is dropped gets no reply either way. -/
theorem ServedAs.exec_wrongLength {c : Instr} {n : Nat} (served : ServedAs c f.kind n)
    (front : s.flight.frames = f :: rest) (wrong : f.payload.length ≠ n) :
    exec c s = .next (s.replied f rest .malformed []) := by
  by_cases tested : f.broadcast = false ∨ f.kind = 0x03 ∨ f.kind = 0x07
  · obtain ⟨α, row, parse, owner, taken, rejects, own⟩ := served
    rw [taken, takeRequest_own _ _ front (own f rfl (.inr wrong)),
      serve_malformed parse owner f _ tested (rejects _ wrong)]
    exact congrArg _ (putReply_bare s f rest .malformed)
  · obtain ⟨broadcast, noSetParam, noCommand⟩ : f.broadcast = true ∧ f.kind ≠ 0x03 ∧ f.kind ≠ 0x07 := by
      simpa using tested
    rw [served.exec_broadcast front noSetParam noCommand broadcast, replied_broadcast broadcast]

theorem exec_unknownKind (front : s.flight.frames = f :: rest) (unknown : f.kind.toNat = 0 ∨ 15 < f.kind.toNat) :
    exec .unknownKind s = .next (s.replied f rest .unknownKind []) :=
  congrArg _ ((takeRequest_own _ _ front (row_of_unknown_kind unknown)).trans (putReply_bare s f rest .unknownKind))

theorem exec_commandCodeOutOfRange {code : Byte} (h : s.asked f rest 0x07 [code])
    (beyond : code.toNat = 0 ∨ 5 < code.toNat) :
    exec .commandCodeOutOfRange s = .next (s.replied f rest .refusedRange []) := by
  have taken := takeCommand (fun s => refuse s .refusedRange) h
  rw [commandRow_of_code beyond, refusedRange_replyTo] at taken
  exact congrArg _ taken

end

/-- Settles O34: the tests of the handler in the order of the statement. -/
theorem requestTests : Obligations.RequestTests := by
  intro s f rest front
  refine ⟨exec_unknownKind front, fun p listed kind wrong => ?_, fun p listed kind noSetParam noCommand broadcast => ?_,
    fun code kind payload => exec_commandCodeOutOfRange ⟨front, kind, payload⟩⟩
  · exact (kind ▸ requestTable_servedAs p listed).exec_wrongLength front wrong
  · exact (kind ▸ requestTable_servedAs p listed).exec_broadcast front noSetParam noCommand broadcast

end Sys2Proof.Machine
end


section
/-! PROOFS. SET_PARAM of every parameter but a gain: how a write is answered, what each class of parameter makes of a
value, and from that the whole row. -/

namespace Sys2Proof.Machine

/-! ## What a write leaves of each parameter -/

theorem Params.num_setNum (p : Params) (n m : NumParam) (x : Int) :
    (p.setNum n x).num m = if m = n then x else p.num m := by
  split
  case isTrue same => exact same ▸ p.num_setNum_self m x
  case isFalse other => exact p.num_setNum_of_ne x other

theorem Params.cal_setCal (p : Params) (c d : CalParam) (x : Int) :
    (p.setCal c x).cal d = if d = c then x else p.cal d := by
  split
  case isTrue same => exact same ▸ p.cal_setCal_self d x
  case isFalse other => exact p.cal_setCal_of_ne x other

/-! ## Enumerated values -/

/-- The values of an enumeration have codes from 0 to the last one, and no number beyond these is a code (11 R173). -/
structure Coded {α : Type} (ofInt : Int → Option α) (toInt : α → Int) (last : Int) : Prop where
  decoded : ∀ a, ofInt (toInt a) = some a
  beyond : ∀ x, x < 0 ∨ last < x → ofInt x = none

theorem Mode.coded : Coded Mode.ofInt Mode.toInt 1 where
  decoded m := by cases m <;> rfl
  beyond x h := by
    unfold Mode.ofInt
    repeat rw [if_neg (by omega)]

theorem TimeoutCode.coded : Coded TimeoutCode.ofInt TimeoutCode.toInt 5 where
  decoded c := by cases c <;> rfl
  beyond x h := by
    unfold TimeoutCode.ofInt
    repeat rw [if_neg (by omega)]

theorem TripAct.coded : Coded TripAct.ofInt TripAct.toInt 1 where
  decoded a := by cases a <;> rfl
  beyond x h := by
    unfold TripAct.ofInt
    repeat rw [if_neg (by omega)]

theorem CounterMode.coded : Coded CounterMode.ofInt CounterMode.toInt 1 where
  decoded m := by cases m <;> rfl
  beyond x h := by
    unfold CounterMode.ofInt
    repeat rw [if_neg (by omega)]

/-! ## Writes -/

section
variable {s : State} {c : CalParam} {x : Int}

theorem writeCal_armed (armed : s.ctl.regime ≠ .off) : writeCal c x s = refuseWrite s .refusedState := if_pos armed

theorem writeCal_admitted (off : s.ctl.regime = .off) (admitted : c.admits x = true) :
    writeCal c x s = { state := s.setParams (s.params.setCal c x), status := .ok, value := x } :=
  (if_neg (not_not_intro off)).trans (if_pos admitted)

theorem writeCal_barred (off : s.ctl.regime = .off) (barred : c.admits x = false) :
    writeCal c x s = refuseWrite s .refusedRange :=
  (if_neg (not_not_intro off)).trans (if_neg (ne_true_of_eq_false barred))

/-- A numeric write as the whole state that it leaves: the store, and the commanded lean under LEAN_LIMIT (05 R99). -/
theorem writeNum_eq (n : NumParam) (x : Int) (s : State) :
    let y := s.params.clampNum n x
    writeNum n x s =
      { state := { s with
          params := s.params.setNum n y
          target := if n = .leanLimit then { s.target with phiCmd := clampMag y s.target.phiCmd } else s.target }
        status := if y = x then .ok else .clamped
        value := y } := by
  unfold writeNum
  dsimp only
  split <;> rfl

end

/-! ## How a write is answered -/

/-- A write answered, with the identifier and the value as stored (11 R174). -/
def Written.replyTo (w : Written) (id : Byte) (f : Frame) : State := putReply w.state f w.status (id :: be32 w.value)

section
variable {s : State} {f : Frame} {rest : List Frame} {id b3 b2 b1 b0 : Byte}

theorem takeSetParam_unknown (unknown : ParamId.ofByte id = none) (x : Int) (s : State) :
    takeSetParam id x s = refuse s .refusedRange := by
  simp only [takeSetParam, unknown]

theorem takeSetParam_replyTo {p : ParamId} (known : ParamId.ofByte id = some p) (x : Int) (s : State) (f : Frame) :
    (takeSetParam id x s).replyTo f = (writeParam p x s).replyTo id f := by
  simp only [takeSetParam, known]
  rfl

theorem exec_setParam_known {p : ParamId} (h : s.asked f rest 0x03 [id, b3, b2, b1, b0])
    (known : ParamId.ofByte id = some p) :
    exec .setParam s = .next ((writeParam p (int32 b3 b2 b1 b0) (s.dropped rest)).replyTo id f) := by
  rw [exec_setParam h, takeSetParam_replyTo known]

/-- A refusal carries no payload. -/
theorem refuseWrite_replyTo (s : State) (f : Frame) (rest : List Frame) (id : Byte) {st : Status}
    (refused : st.carriesPayload = false) :
    (refuseWrite (s.dropped rest) st).replyTo id f = s.replied f rest st [] := by
  rw [Written.replyTo, putReply_eq]
  simp only [refuseWrite, refused]
  rfl

/-- A write that is taken, with what it leaves in the parameter store and the target generator. -/
theorem accepted_write_replyTo (s : State) (f : Frame) (rest : List Frame) (id : Byte) (p : Params) (g : TargetGen)
    (y : Int) {st : Status} (accepted : st.carriesPayload = true) :
    Written.replyTo { state := { s.dropped rest with params := p, target := g }, status := st, value := y } id f =
      { s.replied f rest st (id :: be32 y) with params := p, target := g } := by
  rw [Written.replyTo, putReply_eq, if_pos accepted]
  rfl

/-- A write that changes the store alone. -/
theorem accepted_setParams_replyTo (s : State) (f : Frame) (rest : List Frame) (id : Byte) (p : Params) (x : Int) :
    Written.replyTo { state := (s.dropped rest).setParams p, status := .ok, value := x } id f =
      { s.replied f rest .ok (id :: be32 x) with params := p } :=
  accepted_write_replyTo s f rest id p s.target x rfl

/-- SET_PARAM of an enumerated parameter: a code is stored, a number beyond the codes is refused. -/
theorem exec_setParam_enum {α : Type} {ofInt : Int → Option α} {toInt : α → Int} {last : Int}
    (coded : Coded ofInt toInt last) {p : ParamId} {store : α → Params}
    (h : s.asked f rest 0x03 [id, b3, b2, b1, b0]) (known : ParamId.ofByte id = some p)
    (write : ∀ x, writeParam p x (s.dropped rest) = writeEnum ((ofInt x).map store) x (s.dropped rest)) :
    let x := int32 b3 b2 b1 b0
    (∀ a, toInt a = x →
      exec .setParam s = .next { s.replied f rest .ok (id :: be32 x) with params := store a }) ∧
    (x < 0 ∨ last < x → exec .setParam s = .next (s.replied f rest .refusedRange [])) := by
  intro x
  rw [exec_setParam_known h known, write]
  refine ⟨fun a code => ?_, fun beyond => ?_⟩
  · rw [show ofInt x = some a from code ▸ coded.decoded a]
    exact congrArg _ (accepted_setParams_replyTo s f rest id (store a) x)
  · rw [coded.beyond x beyond]
    exact congrArg _ (refuseWrite_replyTo s f rest id rfl)

/-- SET_PARAM of a numeric parameter. -/
theorem exec_setParam_num {n : NumParam} (h : s.asked f rest 0x03 [id, b3, b2, b1, b0])
    (known : ParamId.ofByte id = some (.num n)) :
    let x := int32 b3 b2 b1 b0
    let y := s.params.clampNum n x
    exec .setParam s = .next { s.replied f rest (if y = x then .ok else .clamped) (id :: be32 y) with
      params := s.params.setNum n y
      target := if n = .leanLimit then { s.target with phiCmd := clampMag y s.target.phiCmd } else s.target } := by
  intro x y
  rw [exec_setParam_known h known, show writeParam (.num n) = writeNum n from rfl, writeNum_eq]
  exact congrArg _ (accepted_write_replyTo s f rest id _ _ y (by split <;> rfl))

/-- SET_PARAM of a calibration parameter: the regime is tested first, and then the value. -/
theorem exec_setParam_cal {c : CalParam} (h : s.asked f rest 0x03 [id, b3, b2, b1, b0])
    (known : ParamId.ofByte id = some (.cal c)) :
    let x := int32 b3 b2 b1 b0
    (s.ctl.regime ≠ .off → exec .setParam s = .next (s.replied f rest .refusedState [])) ∧
    (s.ctl.regime = .off → c.admits x = true →
      exec .setParam s = .next { s.replied f rest .ok (id :: be32 x) with params := s.params.setCal c x }) ∧
    (s.ctl.regime = .off → c.admits x = false → exec .setParam s = .next (s.replied f rest .refusedRange [])) := by
  intro x
  rw [exec_setParam_known h known, show writeParam (.cal c) = writeCal c from rfl]
  refine ⟨fun armed => ?_, fun off admitted => ?_, fun off barred => ?_⟩
  · rw [writeCal_armed (s := s.dropped rest) armed, refuseWrite_replyTo s f rest id rfl]
  · rw [writeCal_admitted (s := s.dropped rest) off admitted, accepted_setParams_replyTo]
    rfl
  · rw [writeCal_barred (s := s.dropped rest) off barred, refuseWrite_replyTo s f rest id rfl]

end

/-- Settles O36: the classes of parameters in the order of the statement; its cross-clamps are the store's own. -/
theorem setParamWritesOneParameter : Obligations.SetParamWritesOneParameter := by
  intro s f rest id b3 b2 b1 b0 asked x accepted refused
  refine ⟨fun unknown => ?_, fun n known => ?_, fun c known => ?_,
    fun known => exec_setParam_enum Mode.coded asked known fun _ => rfl,
    fun known => exec_setParam_enum TimeoutCode.coded asked known fun _ => rfl,
    fun known => exec_setParam_enum TimeoutCode.coded asked known fun _ => rfl,
    fun known => exec_setParam_enum TripAct.coded asked known fun _ => rfl,
    fun known => exec_setParam_enum CounterMode.coded asked known fun _ => rfl⟩
  · rw [exec_setParam asked, takeSetParam_unknown unknown, refusedRange_replyTo]
  · intro r y
    have clamped : s.params.clampNum n x = y := by cases n <;> rfl
    exact ⟨clamped ▸ exec_setParam_num asked known, fun m => s.params.num_setNum n m y⟩
  · obtain ⟨armed, admitted, barred⟩ := exec_setParam_cal asked known
    exact ⟨armed, fun off fits => ⟨admitted off fits, fun d => s.params.cal_setCal c d x⟩, barred⟩

end Sys2Proof.Machine
end


section
/-! PROOFS. The step itself: what it answers for each of the two shapes of the queue. -/

namespace Sys2Proof.Machine

variable {s : State} {c : Instr} {rest : List Instr}

theorem step_of_pending_nil (empty : s.pending = []) : step s = .next s := by
  rw [step, empty]

theorem step_of_pending_cons (front : s.pending = c :: rest) : step s = exec c { s with pending := rest } := by
  rw [step, front]

/-- Settles O1: the two shapes of the queue are the two branches of the step. -/
theorem stepRunsFrontCommand : Obligations.StepRunsFrontCommand :=
  ⟨fun _ _ _ front => step_of_pending_cons front, fun _ empty => step_of_pending_nil empty⟩

end Sys2Proof.Machine
end
